-- ==== Sys2Proof/Word.lean ====
section
/-!
DEFINITION. The word types of the block: a W-bit timestamp, a byte of the frame, a 16-bit result and the 6-bit count
(`00_scope.md` R12, `10_state.md` R17, R18, R22, R29, R30).
-/
namespace Sys2Proof

/-- A timestamp: W = TS_WIDTH = 32 bits (R12, the spec's decision D4). -/
abbrev Word := BitVec 32

/-- A byte `B[k]` of the decoded frame (R22). -/
abbrev Byte := BitVec 8

/-- A result port value, unsigned Q8.8 (R29, R30, R67). -/
abbrev Half := BitVec 16

/-- The transition count `n`, a 6-bit unsigned register (R18). -/
abbrev Count := BitVec 6

end Sys2Proof
end

