-- ==== Sys2Proof/Syntax.lean ====
section
/-!
DEFINITION. The syntax: the variants, the phases of the sequencer, the failure kinds, the five-byte frame, and one
constructor of `Instr` for each row of `opcode_table.json`.
-/
namespace Sys2Proof

/-- The two sensor variants (R11); there is no third (R69). -/
inductive Variant where
  | int8
  | fix256
  deriving DecidableEq, Repr, Inhabited

/-- The six values of the sequencer register `phase` (R16). -/
inductive Phase where
  | idle
  | hsPoll
  | wakeHold
  | capRelease
  | capture
  | finish
  deriving DecidableEq, Repr

/-- The four ways a read can fail (R101), in the source's order (R68). -/
inductive ErrorKind where
  | busBusy
  | syncTimeout
  | dataTimeout
  | checksumMismatch
  deriving DecidableEq, Repr, Inhabited

/-- The decoded frame `B[1..5]` (R22): `b1` humidity-high, `b2` humidity-low, `b3` temperature-high,
`b4` temperature-low, `b5` checksum (R64). -/
structure Frame where
  b1 : Byte
  b2 : Byte
  b3 : Byte
  b4 : Byte
  b5 : Byte
  deriving DecidableEq, Repr

/-- One constructor per row of the opcode table: the two host commands of phase IDLE (R70), the five sequencer
micro-operations (R71), and the FRAME data format (R63) that FINISH decodes. -/
inductive Instr where
  /-- NOP: no read requested; the operand `v` is ignored (R70, R76). -/
  | nop (v : Variant)
  /-- READ v: the host starts a read (R77). -/
  | read (v : Variant)
  /-- HS_POLL (R78). -/
  | hsPoll
  /-- WAKE_HOLD (R79). -/
  | wakeHold
  /-- CAP_RELEASE (R80). -/
  | capRelease
  /-- CAPTURE (R82). -/
  | capture
  /-- FINISH (R89). -/
  | finish
  /-- FRAME: the 40-bit data format that FINISH decodes (R63). -/
  | frame (f : Frame)
  deriving DecidableEq, Repr

end Sys2Proof
end

