-- ==== Sys2Proof/WellFormed.lean ====
section
/-!
DEFINITION. Well-formedness. Of an instruction: every operand value is legal (R70: every 2-bit command pattern is one of
the two; R73: every 40-bit frame is structurally legal). Of the bytes that stand for one: the checks of R72 (the phase
codes 110 and 111 are reserved) and of the byte layout (log entry 16).
-/
namespace Sys2Proof

/-- No operand of any instruction is restricted: `variant` has two codes, both legal (R69, R70); a micro-operation has
no operand; every frame is legal, its checksum being a test of FINISH and not of its form (R73). -/
def Instr.wellFormed : Instr → Bool
  | .nop _ => true
  | .read _ => true
  | .hsPoll => true
  | .wakeHold => true
  | .capRelease => true
  | .capture => true
  | .finish => true
  | .frame _ => true

/-- The three phase-code bits of an operation byte name one of the six phases (R71, R72). -/
def phaseCodeLegal (b : Byte) : Bool :=
  decide ((b.extractLsb' 0 3).toNat ≤ 5)

/-- The bits of an operation byte that carry nothing, 7 to 5, are zero (log entry 16). -/
def upperBitsZero (b : Byte) : Bool :=
  decide (b.extractLsb' 5 3 = 0)

/-- The bytes are one operation byte with a legal phase code and nothing above its fields, or the five bytes of a frame
(R72: "commands are always 2 bits and frames always 40 bits"). -/
def wellFormedBytes : List Byte → Bool
  | [b] => phaseCodeLegal b && upperBitsZero b
  | [_, _, _, _, _] => true
  | _ => false

end Sys2Proof
end

