-- ==== Sys2Proof/Decode.lean ====
section
/-!
DEFINITION. The encodings of `30_encoding.md` and the decoder and encoder over them.

The block fetches no instruction from a store (R59): what selects its operation at a step is the phase code together with
the command word (R70, R71). The model lays these out as one operation byte (log entry 16): bits 2..0 the phase code,
bits 4..3 the command word `cmd`, bits 7..5 zero. A frame is its five bytes in arrival order (R63).
-/
namespace Sys2Proof

/-! ### Codes -/

/-- R69: 0 = INT8, 1 = FIX256. -/
def Variant.code : Variant → BitVec 1
  | .int8 => 0
  | .fix256 => 1

/-- R69, read from the level of the `variant` bit. -/
def Variant.ofBit (v : Bool) : Variant :=
  if v then .fix256 else .int8

/-- R68: the ErrorKind codes on `res_kind`. -/
def ErrorKind.code : ErrorKind → BitVec 2
  | .busBusy => 0
  | .syncTimeout => 1
  | .dataTimeout => 2
  | .checksumMismatch => 3

/-- R71: the phase codes. -/
def Phase.code : Phase → BitVec 3
  | .idle => 0b000
  | .hsPoll => 0b001
  | .wakeHold => 0b010
  | .capRelease => 0b011
  | .capture => 0b100
  | .finish => 0b101

/-- R71, R72: the phase a 3-bit code names; 110 and 111 are reserved. -/
def Phase.ofCode? (c : BitVec 3) : Option Phase :=
  if c = 0b000 then some .idle
  else if c = 0b001 then some .hsPoll
  else if c = 0b010 then some .wakeHold
  else if c = 0b011 then some .capRelease
  else if c = 0b100 then some .capture
  else if c = 0b101 then some .finish
  else none

/-! ### Words -/

/-- R70: `cmd = {variant, start}`, `variant` in bit 1 and `start` in bit 0. -/
def cmdWord (v : Variant) (start : Bool) : BitVec 2 :=
  v.code ++ BitVec.ofBool start

/-- The operation byte of a phase and a command word. -/
def opByte (p : Phase) (cmd : BitVec 2) : Byte :=
  (0 : BitVec 3) ++ cmd ++ p.code

/-- R63: the frame as one 40-bit number, `{B[1], B[2], B[3], B[4], B[5]}`. -/
def Frame.word (f : Frame) : BitVec 40 :=
  f.b1 ++ f.b2 ++ f.b3 ++ f.b4 ++ f.b5

/-- R63: the five bytes of a 40-bit number, `B[1]` in bits 39..32. -/
def Frame.ofWord (w : BitVec 40) : Frame :=
  { b1 := w.extractLsb' 32 8
    b2 := w.extractLsb' 24 8
    b3 := w.extractLsb' 16 8
    b4 := w.extractLsb' 8 8
    b5 := w.extractLsb' 0 8 }

/-! ### The decoder -/

/-- Why bytes stand for no instruction. -/
inductive DecodeError where
  /-- The phase code is 110 or 111 (R72). -/
  | reservedPhase
  /-- A bit above the fields of an operation byte is set. -/
  | reservedBits
  /-- Neither one operation byte nor the five bytes of a frame. -/
  | badLength
  deriving DecidableEq, Repr

/-- R70: bit 0 selects READ or NOP, bit 1 is the operand. -/
def decodeCmd (cmd : BitVec 2) : Instr :=
  if cmd.getLsbD 0 then .read (Variant.ofBit (cmd.getLsbD 1))
  else .nop (Variant.ofBit (cmd.getLsbD 1))

/-- R71: the operation a phase selects; the command word is examined only in IDLE (R70). -/
def decodePhase : Phase → BitVec 2 → Instr
  | .idle, cmd => decodeCmd cmd
  | .hsPoll, _ => .hsPoll
  | .wakeHold, _ => .wakeHold
  | .capRelease, _ => .capRelease
  | .capture, _ => .capture
  | .finish, _ => .finish

/-- The operation byte: its phase code, then its command word. -/
def decodeOpByte (b : Byte) : Except DecodeError Instr :=
  if b.extractLsb' 5 3 = 0 then
    match Phase.ofCode? (b.extractLsb' 0 3) with
    | some p => .ok (decodePhase p (b.extractLsb' 3 2))
    | none => .error .reservedPhase
  else .error .reservedBits

/-- The decoder, total on any bytes. -/
def decode : List Byte → Except DecodeError Instr
  | [b] => decodeOpByte b
  | [b1, b2, b3, b4, b5] => .ok (.frame ⟨b1, b2, b3, b4, b5⟩)
  | _ => .error .badLength

/-! ### The encoder -/

/-- The bytes of an instruction: a command under phase code 000, a micro-operation under its own code with a zero
command word, a frame as its bytes in arrival order. -/
def encode : Instr → List Byte
  | .nop v => [opByte .idle (cmdWord v false)]
  | .read v => [opByte .idle (cmdWord v true)]
  | .hsPoll => [opByte .hsPoll 0]
  | .wakeHold => [opByte .wakeHold 0]
  | .capRelease => [opByte .capRelease 0]
  | .capture => [opByte .capture 0]
  | .finish => [opByte .finish 0]
  | .frame f => [f.b1, f.b2, f.b3, f.b4, f.b5]

/-! ### The opcode table's numbering -/

/-- The instruction the decoder reads from a table row's word. A row of format CMD has 2 bits: the command word under
phase code 000. A row of format PHASE has 3 bits: the operation byte with a zero command word. A row of format FRAME has
40 bits, `B[1]` in bits 39..32. Eight bits are one whole operation byte (log entry 16: the table's CMD and PHASE words
are two code spaces whose numbers overlap, told apart by their widths alone). -/
def decodeTableWord (nbits w : Nat) : Option Instr :=
  if nbits = 2 then
    if w < 4 then (decode [opByte .idle (BitVec.ofNat 2 w)]).toOption else none
  else if nbits = 3 then
    if w < 8 then (decode [BitVec.ofNat 8 w]).toOption else none
  else if nbits = 8 then
    if w < 256 then (decode [BitVec.ofNat 8 w]).toOption else none
  else if nbits = 40 then
    if w < 2 ^ 40 then
      let f := Frame.ofWord (BitVec.ofNat 40 w)
      (decode [f.b1, f.b2, f.b3, f.b4, f.b5]).toOption
    else none
  else none

end Sys2Proof
end

