-- ==== Sys2Proof/Config.lean ====
section
/-!
DEFINITION. What is fixed for this hardware (`00_scope.md` section 5), and the free values: constants without a body,
each a function of the step counter, for what the spec calls unspecified and for the inputs nobody has given.
-/
namespace Sys2Proof.Config

/-- T_BUSY = 250 microseconds (R6). -/
def tBusy : Nat := 250

/-- T_WAKE = 2000 microseconds (R7). -/
def tWake : Nat := 2000

/-- T_GAP = 20000 microseconds (R8). -/
def tGap : Nat := 20000

/-- T_BIT = 100 microseconds (R9). -/
def tBit : Nat := 100

/-- N_EDGES = 42: one sync transition, 40 data-bit transitions, one trailing marker (R10). -/
def nEdges : Nat := 42

/-- N_BITS = 40 (R10). -/
def nBits : Nat := 40

/-- N_BYTES = 5 (R10). -/
def nBytes : Nat := 5

/-- The number of timestamp slots, `T[0..42]` (R17). -/
def nSlots : Nat := 43

/-- TS_WIDTH = W = 32 (R12, the spec's decision D4). -/
def tsWidth : Nat := 32

/-- R15: the time between two consecutive samples is less than this, 2^W − T_GAP − 1. -/
def maxAdvance : Nat := 2 ^ tsWidth - tGap - 1

/-! ### Free values of the block (R121, R108, R99), as functions of the step counter -/

/-- `T[i]` after a reset step: `freeSlot k i` for the reset step numbered `k` (R121, U4). -/
opaque freeSlot : Nat → Nat → Word

/-- `n` after a reset step (R121, U4). -/
opaque freeCount : Nat → Count

/-- `t_ref` after a reset step (R121, U4). -/
opaque freeTRef : Nat → Word

/-- `prev` after a reset step (R121, U4). -/
opaque freePrev : Nat → Bool

/-- `var` after a reset step (R121, U4). -/
opaque freeVar : Nat → Variant

/-- `B[i]` after a reset step: `freeByte k i` for the reset step numbered `k` (R121, U4). -/
opaque freeByte : Nat → Nat → Byte

/-- `res_ok` after a reset step (R121, U4). -/
opaque freeOk : Nat → Bool

/-- `res_kind` after a reset step or after a Success (R121, R99, U3). -/
opaque freeKind : Nat → ErrorKind

/-- `res_temp` after a reset step or after a failure (R121, R108, U3). -/
opaque freeTemp : Nat → Half

/-- `res_hum` after a reset step or after a failure (R121, R108, U3). -/
opaque freeHum : Nat → Half

/-! ### Free inputs: what the environment presents when no sample is listed (R34 to R38) -/

/-- `rst` of a drawn sample: the host may apply reset at any time (R119, R122). -/
opaque freeRst : Nat → Bool

/-- Whether the host wants to start a read at a drawn sample (R35). -/
opaque freeStart : Nat → Bool

/-- The advance of `now` before a drawn sample; the draw keeps R15's limit. -/
opaque freeAdvance : Nat → Nat

/-- `line_in` of a drawn sample: no rule constrains it (R38). -/
opaque freeLineIn : Nat → Bool

end Sys2Proof.Config
end

