-- ==== Sys2Proof/Machine/State.lean ====
section
/-!
DEFINITION. The state of the block as plain data: every register of `10_state.md`, the five input ports as sampled at the
coming step, and the model's own bookkeeping (the samples to come, the step counter, the record of port writes).
-/
namespace Sys2Proof.Machine

/-- One sample of the input ports (R34 to R38). -/
structure Inputs where
  /-- `rst`: this step is a reset step (R34). -/
  rst : Bool
  /-- `start`: the host requests a read (R35). -/
  start : Bool
  /-- `variant`: the configured sensor variant (R36). -/
  variant : Variant
  /-- `now`: the host's microsecond counter (R37). -/
  now : Word
  /-- `line_in`: the level of the line, true = high (R38). -/
  lineIn : Bool
  deriving DecidableEq, Repr

/-- The output ports (R39), as the host and the pad see them. -/
structure Outputs where
  lineOe : Bool
  lineOut : Bool
  crit : Bool
  busy : Bool
  done : Bool
  resOk : Bool
  resKind : ErrorKind
  resTemp : Half
  resHum : Half
  deriving DecidableEq, Repr

/-- A write of a register that drives an output port (R54, R57). -/
inductive PortWrite where
  | lineOe (v : Bool)
  | lineOut (v : Bool)
  | crit (v : Bool)
  | done (v : Bool)
  deriving DecidableEq, Repr

/-- A port write and the step that made it. -/
structure PortEvent where
  step : Nat
  write : PortWrite
  deriving DecidableEq, Repr

/-- The state of the block. A Bool register is true = 1 = high. -/
structure State where
  /-- `phase`, the sequencer (R16). -/
  phase : Phase
  /-- `T[0..42]`, the timestamp slots (R17). -/
  t : Vector Word 43
  /-- `n`, the number of recorded transitions (R18). -/
  n : Count
  /-- `t_ref`, the reference of the running Phase 1 window (R19). -/
  tRef : Word
  /-- `prev`, the level at the previous capture sample (R20). -/
  prev : Bool
  /-- `var`, the variant in force for the current read (R21). -/
  var : Variant
  /-- `B[1..5]`, the decoded frame (R22). -/
  b : Frame
  /-- `line_oe`: the block drives the line (R23). -/
  lineOe : Bool
  /-- `line_out`: the level it drives (R24). -/
  lineOut : Bool
  /-- `crit`: the request to suppress preemption (R25). -/
  crit : Bool
  /-- `done`: the result ports hold a result (R26). -/
  done : Bool
  /-- `res_ok`: Success (R27). -/
  resOk : Bool
  /-- `res_kind`: the kind of a failure (R28). -/
  resKind : ErrorKind
  /-- `res_temp`, unsigned Q8.8 (R29). -/
  resTemp : Half
  /-- `res_hum`, unsigned Q8.8 (R30). -/
  resHum : Half
  /-- The input ports as the coming step samples them (R5). -/
  inp : Inputs
  /-- Model's own: the samples of the steps after the coming one, oldest first (log entry 1). -/
  pending : List Inputs
  /-- Model's own: the number of steps taken; free values are functions of it (log entry 3). -/
  tick : Nat
  /-- Model's own: every write of an output port so far, oldest first (R54, log entry 4). -/
  events : List PortEvent
  deriving DecidableEq, Repr

/-- What stops the machine. -/
inductive Fault where
  /-- Raised by CAPTURE when it would read or write a slot of `T` with an index above 42: no such slot exists (R46), and
  R53 says that no run does this and that it needs no defined behaviour. Safe: the block stops where the spec gives no
  effect, in states no run from reset reaches (log entry 14). -/
  | slotOutOfRange (index : Nat)
  deriving DecidableEq, Repr

/-- What the model gives no meaning to. -/
inductive Refusal where
  /-- Raised by an arm of `exec` whose instruction has no meaning yet; no arm does. Safe. -/
  | notModelled (mnemonic : String)
  deriving DecidableEq, Repr

/-- The machine right after reset: IDLE, the line not driven, no critical section, no result (R121). The registers R121
leaves unspecified, the input ports and the model's own fields hold the values of log entry 5 (DESIGN CHOICE). -/
def State.reset : State where
  phase := .idle
  t := Vector.replicate 43 0
  n := 0
  tRef := 0
  prev := false
  var := .int8
  b := ⟨0, 0, 0, 0, 0⟩
  lineOe := false
  lineOut := true
  crit := false
  done := false
  resOk := false
  resKind := .busBusy
  resTemp := 0
  resHum := 0
  inp := ⟨false, false, .int8, 0, false⟩
  pending := []
  tick := 0
  events := []

end Sys2Proof.Machine
end

