-- ==== Sys2Proof/Machine/Ops.lean ====
section
/-!
DEFINITION. The named operations over the registers, the slot array and the ports: register writes, the port primitives
of `20_memory.md` section 2, `CritEnter` and `CritExit`, `raise K` and the return of a Success, the reset step, and the
passage to the next input sample.
-/
namespace Sys2Proof.Machine

/-! ### Writes of one register -/

/-- `phase <- p` (R16). -/
def State.setPhase (s : State) (p : Phase) : State := { s with phase := p }

/-- `t_ref <- v` (R19). -/
def State.setTRef (s : State) (v : Word) : State := { s with tRef := v }

/-- `prev <- v` (R20). -/
def State.setPrev (s : State) (v : Bool) : State := { s with prev := v }

/-- `var <- v` (R21). -/
def State.setVar (s : State) (v : Variant) : State := { s with var := v }

/-- `n <- v` (R18). -/
def State.setCount (s : State) (v : Count) : State := { s with n := v }

/-- `B[1..5] <- f` (R22). -/
def State.setFrame (s : State) (f : Frame) : State := { s with b := f }

/-- `res_ok <- v` (R27). -/
def State.setResOk (s : State) (v : Bool) : State := { s with resOk := v }

/-- `res_kind <- code(k)` (R28). -/
def State.setResKind (s : State) (k : ErrorKind) : State := { s with resKind := k }

/-- `res_temp <- v` (R29). -/
def State.setResTemp (s : State) (v : Half) : State := { s with resTemp := v }

/-- `res_hum <- v` (R30). -/
def State.setResHum (s : State) (v : Half) : State := { s with resHum := v }

/-! ### Port writes, each recorded as an event in order (R54, R57) -/

/-- Record port writes, in order, under the number of this step (log entry 4). -/
def State.emit (s : State) (ws : List PortWrite) : State :=
  { s with events := s.events ++ ws.map fun w => ⟨s.tick, w⟩ }

/-- `LineWrite(v)`: `line_out <- v` (R48). -/
def State.lineWrite (s : State) (v : Bool) : State :=
  { s.emit [.lineOut v] with lineOut := v }

/-- `LineDir(OUTPUT)` for `true`, `LineDir(INPUT)` for `false`: `line_oe <- 1` or `0` (R49). -/
def State.lineDir (s : State) (output : Bool) : State :=
  { s.emit [.lineOe output] with lineOe := output }

/-- `crit <- v`, the one write behind `CritEnter` and `CritExit` (R81). -/
def State.setCrit (s : State) (v : Bool) : State :=
  { s.emit [.crit v] with crit := v }

/-- `CritEnter()`: `crit <- 1` (R81). -/
def State.critEnter (s : State) : State := s.setCrit true

/-- `CritExit()`: `crit <- 0` (R81, R85). -/
def State.critExit (s : State) : State := s.setCrit false

/-- `done <- v` (R26). -/
def State.setDone (s : State) (v : Bool) : State :=
  { s.emit [.done v] with done := v }

/-! ### The slot array -/

/-- `T[i]`: one whole slot, or nothing where no slot has this index (R46, R52). -/
def State.slot (s : State) (i : Nat) : Option Word := s.t[i]?

/-- `T[i] <- v`: one whole slot; nothing where no slot has this index (R46, R52). -/
def State.storeSlot (s : State) (i : Nat) (v : Word) : Option State :=
  if h : i < 43 then some { s with t := s.t.set i v } else none

/-- `T[0] <- v`, the baseline slot, which always exists (R80). -/
def State.storeBaseline (s : State) (v : Word) : State := { s with t := s.t.set 0 v }

/-! ### The end of a read -/

/-- `raise K` (R108): `res_ok <- 0; res_kind <- code(K); done <- 1; phase <- IDLE`; `res_temp` and `res_hum` become
unspecified (free values, log entry 7). Nothing else changes. -/
def State.raise (s : State) (k : ErrorKind) : State :=
  { s.emit [.done true] with
    resOk := false
    resKind := k
    resTemp := Config.freeTemp s.tick
    resHum := Config.freeHum s.tick
    done := true
    phase := .idle }

/-- The return of a Success (R99): `res_ok <- 1; res_temp <- t; res_hum <- h; done <- 1; phase <- IDLE`; `res_kind`
becomes unspecified (a free value, log entry 7). -/
def State.returnSuccess (s : State) (temp hum : Half) : State :=
  { s.emit [.done true] with
    resOk := true
    resKind := Config.freeKind s.tick
    resTemp := temp
    resHum := hum
    done := true
    phase := .idle }

/-! ### Reset -/

/-- The reset step (R121): `phase <- IDLE; line_oe <- 0; line_out <- 1; crit <- 0; done <- 0`. The registers R121 leaves
unspecified take free values, fresh at each reset step (log entry 6). -/
def State.resetStep (s : State) : State :=
  { s.emit [.lineOe false, .lineOut true, .crit false, .done false] with
    phase := .idle
    lineOe := false
    lineOut := true
    crit := false
    done := false
    t := Vector.ofFn fun i : Fin 43 => Config.freeSlot s.tick i.val
    n := Config.freeCount s.tick
    tRef := Config.freeTRef s.tick
    prev := Config.freePrev s.tick
    var := Config.freeVar s.tick
    b := { b1 := Config.freeByte s.tick 1
           b2 := Config.freeByte s.tick 2
           b3 := Config.freeByte s.tick 3
           b4 := Config.freeByte s.tick 4
           b5 := Config.freeByte s.tick 5 }
    resOk := Config.freeOk s.tick
    resKind := Config.freeKind s.tick
    resTemp := Config.freeTemp s.tick
    resHum := Config.freeHum s.tick }

/-! ### The next input sample -/

/-- `busy = 1` exactly when `phase ≠ IDLE` (R31). -/
def State.busy (s : State) : Bool := decide (s.phase ≠ .idle)

/-- The output ports show the register values; `busy` has no register (R39, R42). -/
def State.outputs (s : State) : Outputs :=
  { lineOe := s.lineOe
    lineOut := s.lineOut
    crit := s.crit
    busy := s.busy
    done := s.done
    resOk := s.resOk
    resKind := s.resKind
    resTemp := s.resTemp
    resHum := s.resHum }

/-- The environment presents sample `a` at the coming step and the samples `l` after it (log entry 1). -/
def State.present (s : State) (a : Inputs) (l : List Inputs) : State := { s with inp := a, pending := l }

/-- The sample the environment presents when none is listed: free, within the limits the spec puts on the environment.
`now` keeps R15, `variant` is held and `start` is 1 only while `busy = 0` (R119 a, b); `rst` and `line_in` are free
(R122, R38). Log entry 2. -/
def State.drawSample (s : State) : Inputs :=
  { rst := Config.freeRst s.tick
    start := Config.freeStart s.tick && !s.busy
    variant := s.inp.variant
    now := s.inp.now + BitVec.ofNat 32 (Config.freeAdvance s.tick % Config.maxAdvance)
    lineIn := Config.freeLineIn s.tick }

/-- The sample of the next step: the oldest one listed, else a drawn one (log entries 1, 2). -/
def State.nextSample (s : State) : Inputs :=
  match s.pending with
  | p :: _ => p
  | [] => s.drawSample

/-- The end of a step: the next sample stands at the input ports and the step counter advances (R5, R42). -/
def State.advance (s : State) : State :=
  { s with inp := s.nextSample, pending := s.pending.tail, tick := s.tick + 1 }

/-! ### Selection of the operation -/

/-- `cmd = {variant, start}`, as sampled at this step (R70). -/
def State.cmd (s : State) : BitVec 2 := cmdWord s.inp.variant s.inp.start

/-- The operation byte of this step: the phase code and the command word (R71, log entry 16). -/
def State.fetchByte (s : State) : Byte := opByte s.phase s.cmd

/-- The operation of this step (R71). -/
def State.fetch (s : State) : Instr := decodePhase s.phase s.cmd

/-! ### Placing an operation for the next step (log entry 18) -/

/-- Select a phase, and in IDLE a command, for the next step, which is no reset step. -/
def State.placeOp (s : State) (p : Phase) (cmd : BitVec 2) : State :=
  match p with
  | .idle =>
    { s with
      phase := .idle
      inp := { s.inp with rst := false, start := cmd.getLsbD 0, variant := Variant.ofBit (cmd.getLsbD 1) } }
  | p => { s with phase := p, inp := { s.inp with rst := false } }

/-- How many of the first `k` bits on the wire of a frame are 1. -/
def frameOnesBefore (f : Frame) (k : Nat) : Nat :=
  ((List.range k).filter fun j => f.word.getLsbD (39 - j)).length

/-- A complete capture record of a frame: the sync transition at 0, then T_BIT after the previous transition for a 1 and
no time after it for a 0 (R61, R62); the trailing marker stands with transition 41. -/
def frameRecord (f : Frame) : Vector Word 43 :=
  Vector.ofFn fun i : Fin 43 => BitVec.ofNat 32 (Config.tBit * frameOnesBefore f (min (i.val - 1) 40))

/-- Place a complete capture record of a frame for the next step, which is FINISH. -/
def State.placeFrame (s : State) (f : Frame) : State :=
  { s with
    phase := .finish
    t := frameRecord f
    n := BitVec.ofNat 6 Config.nEdges
    inp := { s.inp with rst := false } }

end Sys2Proof.Machine
end

