-- ==== Sys2Proof/Machine/Operands.lean ====
section
/-!
DEFINITION. What the operations read: the input primitives `Now` and `LineRead`, `elapsed`, and the pure functions of the
decoder, `BitDecide`, `Pack` and `Convert` (`00_scope.md` R14, `20_memory.md` section 2, `43_decode.md`).
-/
namespace Sys2Proof.Machine

/-- `elapsed(a, b) = (a - b) mod 2^W`, `a` the later timestamp (R14). -/
def elapsed (a b : Word) : Word := a - b

/-- `Now()` (R50). -/
def State.now (s : State) : Word := s.inp.now

/-- `LineRead()`: the level of the line at this step, whatever `line_oe` is (R47). -/
def State.lineRead (s : State) : Bool := s.inp.lineIn

/-- `BitDecide(later, earlier)`: 1 when the delta is T_BIT or more (R61, R93). -/
def bitDecide (later earlier : Word) : Bool :=
  decide (Config.tBit ≤ (elapsed later earlier).toNat)

/-- Frame bit `f[j] = BitDecide(T[j + 2], T[j + 1])` (R63, R93). -/
def frameBit (t : Vector Word 43) (j : Fin 40) : Bool :=
  bitDecide (t[j.val + 2]'(by omega)) (t[j.val + 1]'(by omega))

/-- `Pack(f, k + 1)`: the eight frame bits from `f[8k]` on, the first as bit 7 (R94). -/
def pack (f : Fin 40 → Bool) (k : Fin 5) : Byte :=
  BitVec.ofNat 8
    ((List.finRange 8).foldl (fun acc i => 2 * acc + (f ⟨8 * k.val + i.val, by omega⟩).toNat) 0)

/-- `B[1..5]` packed from the 40 frame bits (R63, R94). -/
def packFrame (f : Fin 40 → Bool) : Frame :=
  { b1 := pack f 0, b2 := pack f 1, b3 := pack f 2, b4 := pack f 3, b5 := pack f 4 }

/-- The frame a complete capture record carries (R62, R63). -/
def capturedFrame (t : Vector Word 43) : Frame := packFrame (frameBit t)

/-- `HUM16 = {B[1], B[2]}` (R65). -/
def frameHum16 (f : Frame) : Half := f.b1 ++ f.b2

/-- `TEMP16 = {B[3], B[4]}` (R65). -/
def frameTemp16 (f : Frame) : Half := f.b3 ++ f.b4

/-- `Convert(INT8, B)`: whole units in the high bytes, the low bytes ignored (R97). The pair is (t, h). -/
def convertInt8 (f : Frame) : Half × Half := (f.b3 ++ (0 : Byte), f.b1 ++ (0 : Byte))

/-- `Convert(FIX256, B)`: the 16-bit fields as they stand (R98). The pair is (t, h). -/
def convertFix256 (f : Frame) : Half × Half := (frameTemp16 f, frameHum16 f)

/-- `Convert(var, B)` (R97, R98). -/
def convert (v : Variant) (f : Frame) : Half × Half :=
  match v with
  | .int8 => convertInt8 f
  | .fix256 => convertFix256 f

end Sys2Proof.Machine
end

