-- ==== Sys2Proof/Machine/Flags.lean ====
section
/-!
DEFINITION. The tests of the block: the three windows, the edge predicate, the exit count and the checksum
(`60_exceptions.md` R115, `41_capture.md` R83, R84, `43_decode.md` R95).
-/
namespace Sys2Proof.Machine

/-- The bus-busy window has closed: `elapsed(Now(), t_ref) > T_BUSY` (R78). -/
def State.busWindowClosed (s : State) : Bool :=
  decide (Config.tBusy < (elapsed s.now s.tRef).toNat)

/-- The wake window has run: `elapsed(Now(), t_ref) ≥ T_WAKE` (R79). -/
def State.wakeWindowRun (s : State) : Bool :=
  decide (Config.tWake ≤ (elapsed s.now s.tRef).toNat)

/-- The gap window from `last` has closed: `elapsed(Now(), last) > T_GAP` (R82, R84). -/
def State.gapWindowClosed (s : State) (last : Word) : Bool :=
  decide (Config.tGap < (elapsed s.now last).toNat)

/-- The edge predicate, CAPTURE_EDGE = falling: `prev = 1 ∧ LineRead() = 0` (R13, R83). -/
def State.fallingEdge (s : State) : Bool := s.prev && !s.lineRead

/-- The success exit: 42 transitions are recorded (R84 a). -/
def State.allRecorded (s : State) : Bool := decide (s.n.toNat = Config.nEdges)

/-- `ChecksumOk(B)`: `B[5] = (B[1] + B[2] + B[3] + B[4]) mod 256` (R66, R95). -/
def checksumOk (f : Frame) : Bool := decide (f.b5 = f.b1 + f.b2 + f.b3 + f.b4)

end Sys2Proof.Machine
end

