-- ==== Sys2Proof/Machine/Capture.lean ====
section
/-!
DEFINITION. Phase 2, capture (`41_capture.md`): CAP_RELEASE and CAPTURE.
-/
namespace Sys2Proof.Machine

/-- CAP_RELEASE: `LineDir(INPUT); T[0] <- Now(); n <- 0; prev <- 1; phase <- CAPTURE` (R80). -/
def execCapRelease (s : State) : Host.Outcome State Fault Refusal :=
  .next (((((s.lineDir false).storeBaseline s.now).setCount 0).setPrev true).setPhase .capture)

/-- Leave the capture loop: `CritExit(); phase <- FINISH`, on both exits (R82, R85). -/
def State.leaveCapture (s : State) : State := s.critExit.setPhase .finish

/-- Record a transition, at an edge: `T[n + 1] <- Now(); n <- n + 1`; without an edge nothing is recorded (R82). -/
def State.recordTransition (s : State) : Option State :=
  if s.fallingEdge then
    (s.storeSlot (s.n.toNat + 1) s.now).map fun s' => s'.setCount (s.n + 1)
  else some s

/-- The rest of a capture step once the transition is recorded: `prev <- level`, and the success exit when 42 are
recorded (R82, R84 a). -/
def State.afterSample (s : State) : State :=
  let s' := s.setPrev s.lineRead
  if s'.allRecorded then s'.leaveCapture else s'

/-- CAPTURE: the gap window first (timeout exit, the sample not used), then the sample (R82). A slot index that does not
exist stops by name (R53, log entry 14). -/
def execCapture (s : State) : Host.Outcome State Fault Refusal :=
  match s.slot s.n.toNat with
  | none => .fault (.slotOutOfRange s.n.toNat)
  | some last =>
    if s.gapWindowClosed last then .next s.leaveCapture
    else
      match s.recordTransition with
      | none => .fault (.slotOutOfRange (s.n.toNat + 1))
      | some s' => .next s'.afterSample

end Sys2Proof.Machine
end

