-- ==== Sys2Proof/Machine/Finish.lean ====
section
/-!
DEFINITION. Phases 3 and 4 (`42_classification.md`, `43_decode.md`): FINISH, and the FRAME it decodes.
-/
namespace Sys2Proof.Machine

/-- What FINISH does with a frame (R89, the branch n = 42): `B[1..5] <- f`, then ChecksumMismatch or the converted
Success. -/
def State.consumeFrame (s : State) (f : Frame) : State :=
  let s' := s.setFrame f
  if checksumOk f then s'.returnSuccess (convert s.var f).1 (convert s.var f).2
  else s'.raise .checksumMismatch

/-- FINISH: classify by `n`; a complete record is decoded, checked and converted (R89 to R92). -/
def execFinish (s : State) : Host.Outcome State Fault Refusal :=
  if s.n = 0 then .next (s.raise .syncTimeout)
  else if s.n.toNat < Config.nEdges then .next (s.raise .dataTimeout)
  else .next (s.consumeFrame (capturedFrame s.t))

/-- FRAME: the effect FINISH gives this frame (R63, R89; log entry 15). -/
def execFrame (f : Frame) (s : State) : Host.Outcome State Fault Refusal :=
  .next (s.consumeFrame f)

end Sys2Proof.Machine
end

