-- ==== Sys2Proof/Machine/Handshake.lean ====
section
/-!
DEFINITION. Phase 1, the handshake (`40_handshake.md`): NOP, READ, HS_POLL, WAKE_HOLD.
-/
namespace Sys2Proof.Machine

/-- NOP: no register changes; `variant` is ignored (R76). -/
def execNop (_v : Variant) (s : State) : Host.Outcome State Fault Refusal := .next s

/-- READ v: `LineDir(OUTPUT); LineWrite(1); var <- v; t_ref <- Now(); done <- 0; phase <- HS_POLL` (R77). -/
def execRead (v : Variant) (s : State) : Host.Outcome State Fault Refusal :=
  .next ((((((s.lineDir true).lineWrite true).setVar v).setTRef s.now).setDone false).setPhase .hsPoll)

/-- HS_POLL: the window test first, then the level (R78). -/
def execHsPoll (s : State) : Host.Outcome State Fault Refusal :=
  if s.busWindowClosed then .next (s.raise .busBusy)
  else if s.lineRead then .next (((s.lineWrite false).setTRef s.now).setPhase .wakeHold)
  else .next s

/-- WAKE_HOLD: when the wake window has run, `CritEnter(); LineWrite(1); phase <- CAP_RELEASE`; the line is not read
(R79). -/
def execWakeHold (s : State) : Host.Outcome State Fault Refusal :=
  if s.wakeWindowRun then .next ((s.critEnter.lineWrite true).setPhase .capRelease)
  else .next s

end Sys2Proof.Machine
end

