-- ==== Sys2Proof/Machine/Dispatch.lean ====
section
/-!
DEFINITION. One arm per constructor of `Instr`, each one call of that instruction's meaning.
-/
namespace Sys2Proof.Machine

def exec (i : Instr) (s : State) : Host.Outcome State Fault Refusal :=
  match i with
  | .nop v => Sys2Proof.Machine.execNop v s
  | .read v => Sys2Proof.Machine.execRead v s
  | .hsPoll => Sys2Proof.Machine.execHsPoll s
  | .wakeHold => Sys2Proof.Machine.execWakeHold s
  | .capRelease => Sys2Proof.Machine.execCapRelease s
  | .capture => Sys2Proof.Machine.execCapture s
  | .finish => Sys2Proof.Machine.execFinish s
  | .frame f => Sys2Proof.Machine.execFrame f s

end Sys2Proof.Machine
end

