-- ==== Sys2Proof/Machine/Step.lean ====
section
/-!
DEFINITION. One sample step (R5, R41): a reset step when `rst = 1` (R34, R121), else the operation that phase and command
select (R71); then the next input sample stands at the ports.
-/
namespace Sys2Proof.Machine

/-- The step on the registers: reset, or the selected operation. -/
def stepRegisters (s : State) : Host.Outcome State Fault Refusal :=
  if s.inp.rst then .next s.resetStep else exec s.fetch s

/-- One sample step. -/
def step (s : State) : Host.Outcome State Fault Refusal :=
  match stepRegisters s with
  | .next s' => .next s'.advance
  | .fault r => .fault r
  | .refused r => .refused r

/-- Make the next step run the operation a table row's word stands for (numbered as `decodeTableWord` numbers it): a
command in IDLE, a micro-operation in its phase, a frame as a complete capture record in FINISH (log entry 18). A word
that stands for none leaves the state as it is. -/
def State.withFetchWord (s : State) (nbits w : Nat) : State :=
  match decodeTableWord nbits w with
  | some (.nop v) => s.placeOp .idle (cmdWord v false)
  | some (.read v) => s.placeOp .idle (cmdWord v true)
  | some .hsPoll => s.placeOp .hsPoll 0
  | some .wakeHold => s.placeOp .wakeHold 0
  | some .capRelease => s.placeOp .capRelease 0
  | some .capture => s.placeOp .capture 0
  | some .finish => s.placeOp .finish 0
  | some (.frame f) => s.placeFrame f
  | none => s

end Sys2Proof.Machine
end

