-- ==== Sys2Proof/Safety.lean ====
section
/-!
DEFINITION. The terms claims use: what two states have in common, the invariants of the block, the registers a later step
may still read, and the spec's assumptions about the environment (R15, R119).
-/
namespace Sys2Proof.Machine

/-! ### Frames: what two states have in common -/

/-- The capture record is the same: every slot, the count and the previous level. -/
def SameRecord (s s' : State) : Prop := s'.t = s.t ∧ s'.n = s.n ∧ s'.prev = s.prev

/-- The handshake registers are the same: `t_ref` and `var`. -/
def SameHandshake (s s' : State) : Prop := s'.tRef = s.tRef ∧ s'.var = s.var

/-- The result registers are the same. -/
def SameResult (s s' : State) : Prop :=
  s'.resOk = s.resOk ∧ s'.resKind = s.resKind ∧ s'.resTemp = s.resTemp ∧ s'.resHum = s.resHum

/-- The line registers are the same. -/
def SameLine (s s' : State) : Prop := s'.lineOe = s.lineOe ∧ s'.lineOut = s.lineOut

/-- The inputs and the model's own counter are the same. -/
def SameInputs (s s' : State) : Prop :=
  s'.inp = s.inp ∧ s'.pending = s.pending ∧ s'.tick = s.tick

/-- The port writes made between two states, all in this step, are exactly `ws` in this order (R54). -/
def Writes (s s' : State) (ws : List PortWrite) : Prop :=
  s'.events = s.events ++ ws.map fun w => ⟨s.tick, w⟩

/-- What every CAPTURE step leaves alone (R82). -/
def CaptureFrame (s s' : State) : Prop :=
  SameHandshake s s' ∧ s'.b = s.b ∧ SameLine s s' ∧ s'.done = s.done ∧ SameResult s s' ∧ SameInputs s s'

/-- What a step that ends a read in FINISH leaves alone, but for `B` (R89, R108). -/
def EndFrame (s s' : State) : Prop :=
  SameRecord s s' ∧ SameHandshake s s' ∧ SameLine s s' ∧ s'.crit = s.crit ∧ SameInputs s s' ∧
  Writes s s' [.done true]

/-- What consuming a frame does: `B` takes the bytes; with a valid checksum the read succeeds with the converted values,
else it fails with ChecksumMismatch (`42_classification.md` FINISH, `43_decode.md` Return; the spec's own decisions D13,
D14, D15; the fields left unspecified are free, log entry 7). -/
def ConsumesFrame (f : Frame) (s s' : State) : Prop :=
  s'.b = f ∧ s'.phase = .idle ∧ s'.done = true ∧
  (f.b5.toNat = (f.b1.toNat + f.b2.toNat + f.b3.toNat + f.b4.toNat) % 256 →
    s'.resOk = true ∧
    (s.var = .int8 → s'.resHum.toNat = f.b1.toNat * 256 ∧ s'.resTemp.toNat = f.b3.toNat * 256) ∧
    (s.var = .fix256 → s'.resHum.toNat = f.b1.toNat * 256 + f.b2.toNat ∧
      s'.resTemp.toNat = f.b3.toNat * 256 + f.b4.toNat)) ∧
  (f.b5.toNat ≠ (f.b1.toNat + f.b2.toNat + f.b3.toNat + f.b4.toNat) % 256 →
    s'.resOk = false ∧ s'.resKind = .checksumMismatch) ∧
  EndFrame s s'

/-! ### Invariants -/

/-- What `line_oe` is in each phase: driven from READ to CAP_RELEASE, an input from then on, and in IDLE still driven
exactly when the last read ended in BusBusy (R23, R110). -/
def expectedLineOe (s : State) : Bool :=
  match s.phase with
  | .idle => s.done && !s.resOk && decide (s.resKind = .busBusy)
  | .hsPoll | .wakeHold | .capRelease => true
  | .capture | .finish => false

/-- The sequencer invariant: `crit` is 1 exactly in CAP_RELEASE and CAPTURE (R25), `line_out` is 0 exactly in WAKE_HOLD
(R24), `line_oe` is as `expectedLineOe` says (R110), no result is shown while busy (R26), and the count is in range
(R18, R53). -/
def SequencerInv (s : State) : Prop :=
  (s.crit = true ↔ s.phase = .capRelease ∨ s.phase = .capture) ∧
  (s.lineOut = false ↔ s.phase = .wakeHold) ∧
  s.lineOe = expectedLineOe s ∧
  (s.phase ≠ .idle → s.done = false) ∧
  (s.phase = .capture → s.n.toNat ≤ 41) ∧
  (s.phase = .finish → s.n.toNat ≤ 42)

/-- Neighbouring recorded timestamps are at most T_GAP apart while a record is being made or waits for FINISH (R87). -/
def GapInv (s : State) : Prop :=
  s.phase = .capture ∨ s.phase = .finish →
    ∀ i a b, i < s.n.toNat → s.slot i = some a → s.slot (i + 1) = some b →
      (elapsed b a).toNat ≤ Config.tGap

/-- The four written output ports, as an observer of the port writes reconstructs them. -/
structure PortView where
  lineOe : Bool
  lineOut : Bool
  crit : Bool
  done : Bool
  deriving DecidableEq, Repr

/-- One write as the observer sees it. -/
def PortView.see (v : PortView) (e : PortEvent) : PortView :=
  match e.write with
  | .lineOe b => { v with lineOe := b }
  | .lineOut b => { v with lineOut := b }
  | .crit b => { v with crit := b }
  | .done b => { v with done := b }

/-- The ports right after reset (R121). -/
def PortView.atReset : PortView := ⟨false, true, false, false⟩

/-- The output ports of a state (R42). -/
def portView (s : State) : PortView := ⟨s.lineOe, s.lineOut, s.crit, s.done⟩

/-- The ports show exactly the recorded writes, replayed in order from the values after reset (R57). -/
def ReplayInv (s : State) : Prop := s.events.foldl PortView.see PortView.atReset = portView s

/-- The port writes of a read up to each phase, in the order R57 gives. -/
def readTrace : Phase → List PortWrite
  | .idle => []
  | .hsPoll => [.lineOe true, .lineOut true, .done false]
  | .wakeHold => [.lineOe true, .lineOut true, .done false, .lineOut false]
  | .capRelease =>
    [.lineOe true, .lineOut true, .done false, .lineOut false, .crit true, .lineOut true]
  | .capture =>
    [.lineOe true, .lineOut true, .done false, .lineOut false, .crit true, .lineOut true, .lineOe false]
  | .finish =>
    [.lineOe true, .lineOut true, .done false, .lineOut false, .crit true, .lineOut true, .lineOe false,
      .crit false]

/-- In each phase the last port writes are those of the running read, in R57's order. -/
def TraceInv (s : State) : Prop := readTrace s.phase <:+ s.events.map PortEvent.write

/-! ### The registers a later step may still read (R43, R44) -/

/-- Two states agree on every register that the running read may still read; what a read never reads before it has
written it is free to differ (R43). -/
def LiveEq (a b : State) : Prop :=
  a.phase = b.phase ∧
  (a.phase = .hsPoll ∨ a.phase = .wakeHold → a.tRef = b.tRef) ∧
  (a.phase ≠ .idle → a.var = b.var) ∧
  (a.phase = .capture → a.prev = b.prev) ∧
  (a.phase = .capture ∨ a.phase = .finish →
    a.n = b.n ∧ ∀ i, i ≤ a.n.toNat → a.slot i = b.slot i)

/-- The meaningful part of the result agrees: the tag, the kind of a failure, the values of a Success (R27 to R30). -/
def ResultEq (a b : State) : Prop :=
  a.resOk = b.resOk ∧
  (a.resOk = false → a.resKind = b.resKind) ∧
  (a.resOk = true → a.resTemp = b.resTemp ∧ a.resHum = b.resHum)

/-! ### The environment (R15, R119) -/

/-- R15 for two consecutive samples: the time between them is less than 2^W − T_GAP − 1. -/
def ClockOk (a b : Inputs) : Prop := (elapsed b.now a.now).toNat < Config.maxAdvance

/-- The time from sample `a` to the last of the samples after it, by R15's reading of `now`. -/
def totalTime : Inputs → List Inputs → Nat
  | _, [] => 0
  | a, b :: l => (elapsed b.now a.now).toNat + totalTime b l

/-- The samples after `a` keep R15, none is more than `smax` after the one before, and none is a reset. -/
def SpacedBy (smax : Nat) : Inputs → List Inputs → Prop
  | _, [] => True
  | a, b :: l =>
    ClockOk a b ∧ (elapsed b.now a.now).toNat ≤ smax ∧ b.rst = false ∧ SpacedBy smax b l

/-- R136's bound on the time of a read: T_BUSY + T_WAKE + 42 × T_GAP + 5 s. -/
def readTimeBound (smax : Nat) : Nat :=
  Config.tBusy + Config.tWake + Config.nEdges * Config.tGap + 5 * smax

/-! ### The transition table (R40) -/

/-- The phase the table of `10_state.md` section 7 gives after a step that is no reset step. -/
def tableNextPhase (s : State) : Phase :=
  match s.phase with
  | .idle => if s.inp.start = true then .hsPoll else .idle
  | .hsPoll =>
    if 250 < (elapsed s.inp.now s.tRef).toNat then .idle
    else if s.inp.lineIn = true then .wakeHold else .hsPoll
  | .wakeHold => if 2000 ≤ (elapsed s.inp.now s.tRef).toNat then .capRelease else .wakeHold
  | .capRelease => .capture
  | .capture =>
    match s.slot s.n.toNat with
    | some last =>
      if 20000 < (elapsed s.inp.now last).toNat ∨
         (s.n.toNat = 41 ∧ s.prev = true ∧ s.inp.lineIn = false) then .finish else .capture
    | none => .capture
  | .finish => .idle

end Sys2Proof.Machine
end

