-- ==== Sys2Proof/Certificates/Slice0/Obligations.lean ====
section
/-!
DEFINITION. The statements for the provers. "The spec's own decision D<n>" means a choice recorded in
`92_eei_decisions.md`; a statement that rests on one, or on an entry of the model's assumption log, has basis 'derived'.

Model's choices that many statements share: a statement about `exec` holds in every phase, since `exec` tests none (log
entry 23; the spec ties each operation to its phase); and the record of port writes, with the order of the writes of ONE
step, which take effect together at its end, is log entry 4.
-/
section
open Sys2Proof Sys2Proof.Machine

/-! ### Encodings -/

/-- Words written out from the tables of `30_encoding.md` sections 3, 5 and 6 decode to the operations they stand for (the
numbers are the spec's own decision D22; how a row's word is numbered is log entry 16). -/
def Obligations.TableWordsDecodeToTheirRows : Prop :=
  decodeTableWord 2 0b00 = some (.nop .int8) ∧
  decodeTableWord 2 0b10 = some (.nop .fix256) ∧
  decodeTableWord 2 0b01 = some (.read .int8) ∧
  decodeTableWord 2 0b11 = some (.read .fix256) ∧
  decodeTableWord 3 0b001 = some .hsPoll ∧
  decodeTableWord 3 0b010 = some .wakeHold ∧
  decodeTableWord 3 0b011 = some .capRelease ∧
  decodeTableWord 3 0b100 = some .capture ∧
  decodeTableWord 3 0b101 = some .finish ∧
  decodeTableWord 40 0x32001B004D = some (.frame ⟨0x32, 0x00, 0x1B, 0x00, 0x4D⟩)

/-- Decoding the encoding of any instruction, with any operand, gives it back; the encoding's bytes pass the byte check
(layout: the spec's own decision D22 and log entry 16). -/
def Obligations.DecodeOfEncodeIsTheInstruction : Prop :=
  ∀ i : Instr, i.wellFormed = true → decode (encode i) = .ok i ∧ wellFormedBytes (encode i) = true

/-- Bytes that decode are the encoding of what they decode to, once the command word of a micro-operation, which
`30_encoding.md` section 5 says is not examined, is zero (byte layout: log entry 16). -/
def Obligations.EncodeOfDecodeIsTheBytes : Prop :=
  ∀ (bs : List Byte) (i : Instr), decode bs = .ok i →
    (∀ b, bs = [b] → b.extractLsb' 0 3 ≠ 0 → b.extractLsb' 3 2 = 0) → encode i = bs

/-- The decoder rejects exactly: a reserved phase code 110 or 111 (`30_encoding.md` section 7), an operation byte with a
bit above its fields, and a wrong number of bytes; it names which (byte layout: log entry 16). -/
def Obligations.DecoderRejectsExactlyTheReserved : Prop :=
  ∀ bs : List Byte,
    (decode bs = .error .reservedPhase ↔
      ∃ b, bs = [b] ∧ b.extractLsb' 5 3 = 0 ∧
        (b.extractLsb' 0 3 = 0b110 ∨ b.extractLsb' 0 3 = 0b111)) ∧
    (decode bs = .error .reservedBits ↔ ∃ b, bs = [b] ∧ b.extractLsb' 5 3 ≠ 0) ∧
    (decode bs = .error .badLength ↔ bs.length ≠ 1 ∧ bs.length ≠ 5)

/-- R94: bit 7 - i of the byte `B[k + 1]` that `Pack` makes is frame bit `f[8k + i]` (k from 0 here). -/
def Obligations.PackPutsTheFirstBitHighest : Prop :=
  ∀ (f : Fin 40 → Bool) (k : Fin 5) (i : Fin 8),
    (pack f k).getLsbD (7 - i.val) = f ⟨8 * k.val + i.val, by omega⟩

/-- R63: frame bit `f[j]` is the bit carried by recorded transition j + 2; the bytes hold eight bits each, most
significant first, in arrival order; and the 40-bit number `{B[1], …, B[5]}` has `f[j]` as its bit 39 - j. -/
def Obligations.FrameBitsLieInArrivalOrder : Prop :=
  ∀ (t : Vector Word 43) (j : Fin 40),
    (frameBit t j = true ↔
      100 ≤ (elapsed (t[j.val + 2]'(by omega)) (t[j.val + 1]'(by omega))).toNat) ∧
    (capturedFrame t).word.getLsbD (39 - j.val) = frameBit t j ∧
    (∀ i : Fin 8,
      (capturedFrame t).b1.getLsbD (7 - i.val) = frameBit t ⟨i.val, by omega⟩ ∧
      (capturedFrame t).b2.getLsbD (7 - i.val) = frameBit t ⟨8 + i.val, by omega⟩ ∧
      (capturedFrame t).b3.getLsbD (7 - i.val) = frameBit t ⟨16 + i.val, by omega⟩ ∧
      (capturedFrame t).b4.getLsbD (7 - i.val) = frameBit t ⟨24 + i.val, by omega⟩ ∧
      (capturedFrame t).b5.getLsbD (7 - i.val) = frameBit t ⟨32 + i.val, by omega⟩)

/-! ### Pure functions of the decoder -/

/-- `elapsed` is the true time between two readings when that is less than 2^32 microseconds, even if the counter wrapped
in between (`00_scope.md` section 6, the spec's own decision D4). -/
def Obligations.ElapsedIsTheTrueTimeAcrossAWrap : Prop :=
  ∀ (earlier d : Nat), d < 2 ^ 32 →
    (elapsed (BitVec.ofNat 32 (earlier + d)) (BitVec.ofNat 32 earlier)).toNat = d

/-- R61, R93: the bit carried between a transition and its predecessor is 1 when the time between them is 100 or more and
0 when it is less; frame bit `f[j]` is that of `T[j + 2]` and `T[j + 1]`. -/
def Obligations.BitIsOneFromOneHundredMicroseconds : Prop :=
  (∀ (earlier d : Nat), d < 2 ^ 32 →
    ((100 ≤ d → bitDecide (BitVec.ofNat 32 (earlier + d)) (BitVec.ofNat 32 earlier) = true) ∧
     (d < 100 → bitDecide (BitVec.ofNat 32 (earlier + d)) (BitVec.ofNat 32 earlier) = false))) ∧
  ∀ (t : Vector Word 43) (j : Fin 40),
    frameBit t j = bitDecide (t[j.val + 2]'(by omega)) (t[j.val + 1]'(by omega))

/-- R66: the checksum is valid exactly when byte 5 is the low 8 bits of the sum of the four payload bytes. -/
def Obligations.ChecksumIsTheByteSumModulo256 : Prop :=
  ∀ f : Frame, checksumOk f = true ↔
    f.b5.toNat = (f.b1.toNat + f.b2.toNat + f.b3.toNat + f.b4.toNat) % 256

/-- R97: INT8 puts byte 1 and byte 3 into the whole units of humidity and temperature, with a zero fraction, and does
not depend on the low bytes. -/
def Obligations.Int8ConvertsTheHighBytes : Prop :=
  ∀ f : Frame,
    (convert .int8 f).2.toNat = f.b1.toNat * 256 ∧ (convert .int8 f).1.toNat = f.b3.toNat * 256 ∧
    (∀ b2 b4 : Byte, convert .int8 { f with b2 := b2, b4 := b4 } = convert .int8 f)

/-- R65, R98: FIX256 gives the two unsigned big-endian 16-bit fields as they stand, in units of 1/256. -/
def Obligations.Fix256ConvertsTheSixteenBitFields : Prop :=
  ∀ f : Frame,
    (convert .fix256 f).2 = frameHum16 f ∧ (convert .fix256 f).1 = frameTemp16 f ∧
    (frameHum16 f).toNat = f.b1.toNat * 256 + f.b2.toNat ∧
    (frameTemp16 f).toNat = f.b3.toNat * 256 + f.b4.toNat

/-- Decoding depends on the 40 deltas alone: two complete records with the same 40 deltas, whatever their absolute times,
baselines and trailing markers, give the same bytes, and the same valid result for the same variant (`43_decode.md`
section "Return", derived there from the decoder's rules). -/
def Obligations.DecodingDependsOnTheDeltasAlone : Prop :=
  ∀ a b : State, a.n = 42 → b.n = 42 → a.var = b.var →
    (∀ i : Fin 40, elapsed (a.t[i.val + 2]'(by omega)) (a.t[i.val + 1]'(by omega)) =
      elapsed (b.t[i.val + 2]'(by omega)) (b.t[i.val + 1]'(by omega))) →
    ∃ a' b', exec .finish a = .next a' ∧ exec .finish b = .next b' ∧ a'.b = b'.b ∧ ResultEq a' b'

/-! ### What each operation does, and its frame -/

/-- NOP changes no register, whatever the operand and the inputs (`40_handshake.md` NOP; the spec's own decisions D2,
D18). -/
def Obligations.NopChangesNothing : Prop :=
  ∀ (v : Variant) (s : State), ∃ s', exec (.nop v) s = .next s' ∧
    s'.phase = s.phase ∧ SameRecord s s' ∧ SameHandshake s s' ∧ s'.b = s.b ∧ SameLine s s' ∧
    s'.crit = s.crit ∧ s'.done = s.done ∧ SameResult s s' ∧ SameInputs s s' ∧ Writes s s' []

/-- READ v: the line becomes an output driven high, `v` is latched, the bus-busy window opens at this step's `now`, `done`
is cleared; the result ports and the record keep their values (`40_handshake.md` READ; the spec's own decisions D2, D16,
D17). The spec accepts a READ in IDLE only; that `exec` has this effect from every state is the model's choice (log entry
23: the step selects READ in IDLE only), and so is the recorded order of the three writes of the one step (log entry 4). -/
def Obligations.ReadOpensTheBusBusyWindow : Prop :=
  ∀ (v : Variant) (s : State), ∃ s', exec (.read v) s = .next s' ∧
    s'.phase = .hsPoll ∧ s'.lineOe = true ∧ s'.lineOut = true ∧ s'.var = v ∧ s'.tRef = s.inp.now ∧
    s'.done = false ∧
    SameRecord s s' ∧ s'.b = s.b ∧ s'.crit = s.crit ∧ SameResult s s' ∧ SameInputs s s' ∧
    Writes s s' [.lineOe true, .lineOut true, .done false]

/-- HS_POLL inside the window: a high sample drives the line low and opens the wake window; a low sample changes nothing
(`40_handshake.md` HS_POLL; the spec's own decisions D7, D8, D10). -/
def Obligations.HsPollInsideTheWindowFollowsTheLevel : Prop :=
  ∀ s : State, (elapsed s.inp.now s.tRef).toNat ≤ 250 →
    (s.inp.lineIn = true → ∃ s', exec .hsPoll s = .next s' ∧
      s'.phase = .wakeHold ∧ s'.lineOut = false ∧ s'.lineOe = s.lineOe ∧ s'.tRef = s.inp.now ∧
      s'.var = s.var ∧ SameRecord s s' ∧ s'.b = s.b ∧ s'.crit = s.crit ∧ s'.done = s.done ∧
      SameResult s s' ∧ SameInputs s s' ∧ Writes s s' [.lineOut false]) ∧
    (s.inp.lineIn = false → exec .hsPoll s = .next s)

/-- HS_POLL after the window: BusBusy whatever the level (window first), and the line stays as it is driven
(`40_handshake.md` HS_POLL, `60_exceptions.md` section 3; the spec's own decisions D7, D8, D15). `res_temp` and `res_hum`
are free (log entry 7), so nothing is said of them. -/
def Obligations.HsPollAfterTheWindowRaisesBusBusy : Prop :=
  ∀ s : State, 250 < (elapsed s.inp.now s.tRef).toNat → ∃ s', exec .hsPoll s = .next s' ∧
    s'.phase = .idle ∧ s'.done = true ∧ s'.resOk = false ∧ s'.resKind = .busBusy ∧
    SameRecord s s' ∧ SameHandshake s s' ∧ s'.b = s.b ∧ SameLine s s' ∧ s'.crit = s.crit ∧
    SameInputs s s' ∧ Writes s s' [.done true]

/-- WAKE_HOLD ends at the first sample 2000 microseconds or more after `t_ref`: `crit` rises and the line is driven high;
before that it changes nothing, whatever the line reads (`40_handshake.md` WAKE_HOLD; the spec's own decisions D8, D9,
D19). The two writes take effect together at the ports; their recorded order is the model's choice (log entry 4). -/
def Obligations.WakeHoldEndsAfterTheWakeWindow : Prop :=
  ∀ s : State,
    (2000 ≤ (elapsed s.inp.now s.tRef).toNat → ∃ s', exec .wakeHold s = .next s' ∧
      s'.phase = .capRelease ∧ s'.crit = true ∧ s'.lineOut = true ∧ s'.lineOe = s.lineOe ∧
      SameRecord s s' ∧ SameHandshake s s' ∧ s'.b = s.b ∧ s'.done = s.done ∧ SameResult s s' ∧
      SameInputs s s' ∧ Writes s s' [.crit true, .lineOut true]) ∧
    ((elapsed s.inp.now s.tRef).toNat < 2000 → exec .wakeHold s = .next s)

/-- CAP_RELEASE switches the line to input, takes the baseline into slot 0, clears the count and sets `prev` to 1; every
other slot is unchanged (`41_capture.md` CAP_RELEASE; the spec's own decisions D10, D11). -/
def Obligations.CapReleaseTakesTheBaseline : Prop :=
  ∀ s : State, ∃ s', exec .capRelease s = .next s' ∧
    s'.phase = .capture ∧ s'.lineOe = false ∧ s'.lineOut = s.lineOut ∧ s'.n = 0 ∧ s'.prev = true ∧
    s'.slot 0 = some s.inp.now ∧ (∀ i, i ≠ 0 → s'.slot i = s.slot i) ∧
    SameHandshake s s' ∧ s'.b = s.b ∧ s'.crit = s.crit ∧ s'.done = s.done ∧ SameResult s s' ∧
    SameInputs s s' ∧ Writes s s' [.lineOe false]

/-- CAPTURE with the gap window closed: the timeout exit; `prev`, `n` and every slot are unchanged, whatever the sample
shows (`41_capture.md` CAPTURE; the spec's own decisions D7, D8). -/
def Obligations.CaptureTimesOutAfterTheGapWindow : Prop :=
  ∀ (s : State) (last : Word), s.slot s.n.toNat = some last →
    20000 < (elapsed s.inp.now last).toNat → ∃ s', exec .capture s = .next s' ∧
      s'.phase = .finish ∧ s'.crit = false ∧ SameRecord s s' ∧ CaptureFrame s s' ∧
      Writes s s' [.crit false]

/-- CAPTURE inside the gap window at a falling edge: the transition is recorded in slot n + 1 with this step's `now`, and
the step that records transition 42 leaves the loop (`41_capture.md` CAPTURE; the spec's own decisions D7, D8). -/
def Obligations.CaptureRecordsAFallingEdge : Prop :=
  ∀ (s : State) (last : Word), s.n.toNat ≤ 41 → s.slot s.n.toNat = some last →
    (elapsed s.inp.now last).toNat ≤ 20000 → s.prev = true → s.inp.lineIn = false →
    ∃ s', exec .capture s = .next s' ∧
      s'.n.toNat = s.n.toNat + 1 ∧ s'.prev = false ∧ s'.slot (s.n.toNat + 1) = some s.inp.now ∧
      (∀ i, i ≠ s.n.toNat + 1 → s'.slot i = s.slot i) ∧ CaptureFrame s s' ∧
      (s.n.toNat = 41 → s'.phase = .finish ∧ s'.crit = false ∧ Writes s s' [.crit false]) ∧
      (s.n.toNat < 41 → s'.phase = s.phase ∧ s'.crit = s.crit ∧ Writes s s' [])

/-- CAPTURE inside the gap window without a falling edge: only `prev` takes the level of the line; a rising edge is not
recorded. (At a full count of 42, which no run reaches here, the step leaves the loop as the pseudocode's exit test says:
log entry 14.) (`41_capture.md` CAPTURE and section on the edge predicate.) -/
def Obligations.CaptureWithoutAnEdgeOnlyRemembersTheLevel : Prop :=
  ∀ (s : State) (last : Word), s.slot s.n.toNat = some last →
    (elapsed s.inp.now last).toNat ≤ 20000 → ¬(s.prev = true ∧ s.inp.lineIn = false) →
    ∃ s', exec .capture s = .next s' ∧ s'.n = s.n ∧ s'.prev = s.inp.lineIn ∧ s'.t = s.t ∧ CaptureFrame s s' ∧
      (s.n.toNat ≤ 41 → s'.phase = s.phase ∧ s'.crit = s.crit ∧ Writes s s' []) ∧
      (s.n.toNat = 42 → s'.phase = .finish ∧ s'.crit = false ∧ Writes s s' [.crit false])

/-- A transition is recorded at a CAPTURE step that gives a next state exactly when the gap window is open, the previous
sample was high and this one is low (`41_capture.md` CAPTURE, the edge predicate; window
first is the spec's own decision D7). -/
def Obligations.CaptureCountsExactlyTheFallingEdges : Prop :=
  ∀ (s s' : State) (last : Word), s.slot s.n.toNat = some last → exec .capture s = .next s' →
    (s'.n ≠ s.n ↔
      (elapsed s.inp.now last).toNat ≤ 20000 ∧ s.prev = true ∧ s.inp.lineIn = false)

/-- The model's own stop (log entry 14): CAPTURE stops by name when the slot it must read or write does not exist, which
the invariant rules out (`20_memory.md` section 4). -/
def Obligations.CaptureStopsOutsideTheSlotArray : Prop :=
  ∀ s : State,
    (43 ≤ s.n.toNat → exec .capture s = .fault (.slotOutOfRange s.n.toNat)) ∧
    (∀ last, s.n.toNat = 42 → s.slot 42 = some last → (elapsed s.inp.now last).toNat ≤ 20000 →
      s.prev = true → s.inp.lineIn = false → exec .capture s = .fault (.slotOutOfRange 43))

/-- If n = 0 the read fails with SyncTimeout (`42_classification.md` The three classes; how a failure shows on the ports
is the spec's own decisions D15, D18; `res_temp` and `res_hum` are free, log entry 7). -/
def Obligations.FinishWithNoTransitionIsSyncTimeout : Prop :=
  ∀ s : State, s.n = 0 → ∃ s', exec .finish s = .next s' ∧
    s'.phase = .idle ∧ s'.done = true ∧ s'.resOk = false ∧ s'.resKind = .syncTimeout ∧
    s'.b = s.b ∧ EndFrame s s'

/-- If 1 ≤ n ≤ 41 the read fails with DataTimeout, and the recorded timestamps decide nothing of the result
(`42_classification.md` The three classes; how a failure shows on the ports is the spec's own decisions D15, D18). The
last clause equates whole next states, the unspecified `res_temp` and `res_hum` among them: that the same free value is
drawn whatever the timestamps is the model's choice (log entries 3, 7), no rule of the spec. -/
def Obligations.FinishWithAPartialRecordIsDataTimeout : Prop :=
  ∀ s : State, 1 ≤ s.n.toNat → s.n.toNat ≤ 41 → ∃ s', exec .finish s = .next s' ∧
    s'.phase = .idle ∧ s'.done = true ∧ s'.resOk = false ∧ s'.resKind = .dataTimeout ∧
    s'.b = s.b ∧ EndFrame s s' ∧
    (∀ t, exec .finish { s with t := t } = .next { s' with t := t })

/-- A timeout exit with fewer than 42 transitions leaves n ≤ 41 for FINISH, and FINISH then fails and reads no slot
(`41_capture.md`, last rule; the ports of a failure are the spec's own decisions D15, D18). The last clause equates whole
next states, the unspecified `res_temp` and `res_hum` among them: that the same free value is drawn whatever the
timestamps is the model's choice (log entries 3, 7), no rule of the spec. -/
def Obligations.IncompleteRecordsAreNeverDecoded : Prop :=
  ∀ (s : State) (last : Word), s.n.toNat ≤ 41 → s.slot s.n.toNat = some last →
    20000 < (elapsed s.inp.now last).toNat →
    ∃ s' s'', exec .capture s = .next s' ∧ s'.phase = .finish ∧ s'.n.toNat ≤ 41 ∧
      exec .finish s' = .next s'' ∧ s''.resOk = false ∧ s''.done = true ∧
      ∀ t, exec .finish { s' with t := t } = .next { s'' with t := t }

/-- FINISH with a complete record, n = 42 (or, in states no run reaches, more: log entry 14), consumes the frame its record
carries: Success with the converted values when the checksum holds, ChecksumMismatch when it does not. -/
def Obligations.FinishWithACompleteRecordConsumesItsFrame : Prop :=
  ∀ s : State, 42 ≤ s.n.toNat → ∃ s', exec .finish s = .next s' ∧ ConsumesFrame (capturedFrame s.t) s s'

/-- A FRAME has, for every five bytes and every state, the effect FINISH gives it (log entry 15). The equality covers the
unspecified result fields too: both draw the same free values at the same step (log entries 3, 7), the model's choice. -/
def Obligations.FrameIsConsumedAsFinishConsumesIt : Prop :=
  ∀ (f : Frame) (s : State),
    (∃ s', exec (.frame f) s = .next s' ∧ ConsumesFrame f s s') ∧
    (42 ≤ s.n.toNat → capturedFrame s.t = f → exec .finish s = exec (.frame f) s)

/-! ### The machine's step -/

/-- The step runs the decoded instruction: the operation byte of a state always decodes, to a well-formed instruction, and
a step that is no reset step is that instruction's `exec`, after which the next sample stands at the ports, the list of
samples is one shorter and the step counter one higher (`00_scope.md` section 4, `30_encoding.md` section 6; log entries
1, 16). -/
def Obligations.StepRunsTheDecodedInstruction : Prop :=
  ∀ s : State,
    (∃ i, decode [s.fetchByte] = .ok i ∧ i.wellFormed = true) ∧
    (∀ i, decode [s.fetchByte] = .ok i → s.inp.rst = false →
      step s = match exec i s with
        | .next s' =>
          .next { s' with inp := s'.nextSample, pending := s'.pending.tail, tick := s'.tick + 1 }
        | .fault r => .fault r
        | .refused r => .refused r) ∧
    (∀ p l, s.pending = p :: l → s.nextSample = p)

/-- The reset step, from every state and whatever the other inputs: IDLE, line not driven, `crit` and `done` 0; every other
register is unspecified, so nothing is said of it (`70_reset_and_hazards.md` section 1, the spec's own decision D20). Then
the next sample stands at the input ports: the oldest listed one, or, when none is listed, the one drawn for the block in
IDLE. That passage (log entries 1, 2), the step counter (log entry 3) and the record of the four writes with their order inside the one step (log
entry 4) are the model's choice. -/
def Obligations.ResetStepReleasesTheLineAndGoesIdle : Prop :=
  ∀ s : State, s.inp.rst = true → ∃ s', step s = .next s' ∧
    s'.phase = .idle ∧ s'.lineOe = false ∧ s'.lineOut = true ∧ s'.crit = false ∧ s'.done = false ∧
    s'.inp = ({ s with phase := .idle } : State).nextSample ∧ (∀ p l, s.pending = p :: l → s'.inp = p) ∧
    s'.pending = s.pending.tail ∧ s'.tick = s.tick + 1 ∧
    Writes s s' [.lineOe false, .lineOut true, .crit false, .done false]

/-- A word of the opcode table placed for the next step runs as that instruction: a command or micro-operation directly,
a frame as FINISH's consumption of exactly that frame (log entries 15, 18). -/
def Obligations.PlacedWordsRunNext : Prop :=
  ∀ (s : State) (nbits w : Nat) (i : Instr), decodeTableWord nbits w = some i →
    ∀ s0, s0 = s.withFetchWord nbits w →
      (step s0 = match exec i s0 with
        | .next s' => .next s'.advance
        | .fault r => .fault r
        | .refused r => .refused r) ∧
      (∀ f, i = .frame f → s0.phase = .finish ∧ s0.n = 42 ∧ capturedFrame s0.t = f)

/-- The phases follow the transition table, the whole of it, from every state of the invariant (`10_state.md` section 7,
derived there from the operations' rules). -/
def Obligations.PhasesFollowTheTransitionTable : Prop :=
  ∀ s : State, SequencerInv s →
    (s.inp.rst = true → ∃ s', step s = .next s' ∧ s'.phase = .idle) ∧
    (s.inp.rst = false → ∃ s', step s = .next s' ∧ s'.phase = tableNextPhase s)

/-- `start` and `variant` have no effect at a step in any phase but IDLE, when the next sample is a listed one (the
spec's own decision D17, log entry 8; drawn samples hold `variant`, log entry 2). The equality covers the registers a
step leaves unspecified: that they draw the same free values whatever the inputs is the model's choice (log entries 3, 6,
7), no rule of the spec. -/
def Obligations.CommandIsIgnoredWhileBusy : Prop :=
  ∀ (s : State) (start : Bool) (v : Variant), s.phase ≠ .idle → s.pending ≠ [] →
    step { s with inp := { s.inp with start := start, variant := v } } = step s

/-- `LineRead()` is the input `line_in` of this step, whatever the line registers are, and reading it changes nothing; the
line is read in HS_POLL and CAPTURE only: in every other phase, WAKE_HOLD among them, its level has no effect
(`20_memory.md` section 2), and none at a reset step (`70_reset_and_hazards.md` section 1, the spec's own decision D20).
The equality covers the registers a step leaves unspecified: that they draw the same free values whatever the level is
the model's choice (log entries 3, 6, 7), no rule of the spec. -/
def Obligations.LineIsReadOnlyInHsPollAndCapture : Prop :=
  (∀ (s : State) (oe out : Bool), ({ s with lineOe := oe, lineOut := out } : State).lineRead = s.inp.lineIn) ∧
  ∀ (s : State) (level : Bool),
    (s.inp.rst = true ∨ (s.phase ≠ .hsPoll ∧ s.phase ≠ .capture)) →
    step { s with inp := { s.inp with lineIn := level } } = step s

/-- `var` is written by the acceptance of a READ, from `variant`, and by nothing else but a reset step
(`10_state.md` section 2, the spec's own decision D16). -/
def Obligations.VariantIsLatchedAtReadOnly : Prop :=
  ∀ s s' : State, step s = .next s' → s.inp.rst = false →
    (s.phase = .idle → s.inp.start = true → s'.var = s.inp.variant) ∧
    (¬(s.phase = .idle ∧ s.inp.start = true) → s'.var = s.var)

/-- Slots are written by CAP_RELEASE (slot 0) and CAPTURE (slot n + 1) and by nothing else but a reset step; `n` and
`prev` change in those two phases only (`20_memory.md` section 1, derived there). -/
def Obligations.SlotsAreWrittenOnlyByCapture : Prop :=
  ∀ s s' : State, step s = .next s' → s.inp.rst = false →
    (s.phase ≠ .capRelease → s.phase ≠ .capture → SameRecord s s') ∧
    (s.phase = .capRelease → ∀ i, i ≠ 0 → s'.slot i = s.slot i) ∧
    (s.phase = .capture → ∀ i, i ≠ s.n.toNat + 1 → s'.slot i = s.slot i)

/-- The result ports keep their values at every step but the end of a read and reset; `done` then falls only at the
acceptance of a READ; `B` is written only by FINISH with a complete record (`40_handshake.md` NOP and READ, `10_state.md`
sections 2 and 3; the spec's own decision D18). That the ports are held also while `done` is 0, and in the fields the
outcome leaves unspecified, is the model's choice (log entry 7): the spec promises no value there. -/
def Obligations.ResultsAreHeldUntilTheNextRead : Prop :=
  ∀ s s' : State, step s = .next s' → s.inp.rst = false →
    (¬(s.phase ≠ .idle ∧ s'.phase = .idle) → SameResult s s') ∧
    (s.done = true → s'.done = false → s.phase = .idle ∧ s.inp.start = true) ∧
    (s'.b ≠ s.b → s.phase = .finish ∧ 42 ≤ s.n.toNat)

/-! ### Invariants -/

/-- The state right after reset meets every invariant; its registers are those of `10_state.md` section 10, and the rest
are the model's choice (log entry 5). -/
def Obligations.ResetStateMeetsTheInvariants : Prop :=
  SequencerInv State.reset ∧ GapInv State.reset ∧ ReplayInv State.reset ∧ TraceInv State.reset

/-- Every step keeps the sequencer invariant: `crit` is 1 exactly in CAP_RELEASE and CAPTURE, `line_out` is 0 exactly in
WAKE_HOLD, `line_oe` is as the outcome table says, no result while busy, the count in range (`10_state.md` section 3,
`60_exceptions.md` section 3; they rest on the spec's own decisions). -/
def Obligations.EveryStepKeepsTheSequencerInvariant : Prop :=
  ∀ s s' : State, SequencerInv s → step s = .next s' → SequencerInv s'

/-- From a state of the invariant every step gives a next state: no access outside the slot array occurs (`20_memory.md`
section 4, derived there). -/
def Obligations.InvariantStatesNeverStop : Prop :=
  ∀ s : State, SequencerInv s → ∃ s', step s = .next s'

/-- Every step keeps: neighbouring recorded timestamps are at most T_GAP = 20000 microseconds apart (`41_capture.md`, the
derived rule on recorded timestamps). -/
def Obligations.EveryStepKeepsRecordedGapsInTheWindow : Prop :=
  ∀ s s' : State, GapInv s → step s = .next s' → GapInv s'

/-- Every step keeps: the output ports show exactly the port writes so far, replayed in order (`20_memory.md` section 6,
derived there; the record of writes is log entry 4). -/
def Obligations.EveryStepKeepsThePortsAsWritten : Prop :=
  ∀ s s' : State, ReplayInv s → step s = .next s' → ReplayInv s'

/-- Every step keeps: in each phase the last port writes are those of the running read: drive high, then low, then `crit`
with level high, then drive disabled, then `crit` low; and the step that ends a read writes `done` last. The order of
writes of different steps is that of `20_memory.md` section 6 (derived there). The order of writes of one step, which the
ports show together (`line_oe`, `line_out`, `done` 0 at READ; `crit` before `line_out` at the end of WAKE_HOLD), and that
READ's `done` 0 is among them, is the model's choice of what `events` records (log entry 4). -/
def Obligations.EveryStepKeepsTheOrderOfPortWrites : Prop :=
  ∀ s s' : State, TraceInv s → step s = .next s' →
    TraceInv s' ∧
    (s.inp.rst = false → s.phase ≠ .idle → s'.phase = .idle →
      readTrace s.phase ++ [.done true] <:+ s'.events.map PortEvent.write)

/-- The outputs when a read ends, by outcome: `done` is 1, `crit` is 0, `line_out` is 1, and `line_oe` is 1 after BusBusy
and 0 after every other outcome (`60_exceptions.md` section 3, derived there). -/
def Obligations.OutputsWhenAReadEnds : Prop :=
  ∀ s s' : State, SequencerInv s → s.inp.rst = false → s.phase ≠ .idle → step s = .next s' →
    s'.phase = .idle →
    s'.done = true ∧ s'.crit = false ∧ s'.lineOut = true ∧
    (s'.lineOe = true ↔ s'.resOk = false ∧ s'.resKind = .busBusy)

/-- Every read ends in Success or exactly one of the four kinds, and which one is decided by where it ends: BusBusy in
HS_POLL; in FINISH SyncTimeout for n = 0, DataTimeout for 1 to 41, ChecksumMismatch or Success for 42
(`60_exceptions.md` sections 1 and 2; codes and order of the tests are the spec's own decisions D7, D15). -/
def Obligations.OutcomeIsDecidedByWhereTheReadEnds : Prop :=
  ∀ s s' : State, SequencerInv s → step s = .next s' → s.inp.rst = false →
    (s.phase ≠ .idle ∧ s'.phase = .idle ↔ s.done = false ∧ s'.done = true) ∧
    (s.phase ≠ .idle → s'.phase = .idle →
      (s.phase = .hsPoll ∧ s'.resOk = false ∧ s'.resKind = .busBusy) ∨
      (s.phase = .finish ∧ s.n = 0 ∧ s'.resOk = false ∧ s'.resKind = .syncTimeout) ∨
      (s.phase = .finish ∧ 1 ≤ s.n.toNat ∧ s.n.toNat ≤ 41 ∧ s'.resOk = false ∧
        s'.resKind = .dataTimeout) ∨
      (s.phase = .finish ∧ s.n = 42 ∧ checksumOk (capturedFrame s.t) = false ∧ s'.resOk = false ∧
        s'.resKind = .checksumMismatch) ∨
      (s.phase = .finish ∧ s.n = 42 ∧ checksumOk (capturedFrame s.t) = true ∧ s'.resOk = true))

/-! ### Whole reads -/

/-- A step never lets a register that the read has not yet written decide anything: two states that agree on the registers
the read may still read, at the same input sample, step alike, still agree, and end a read with the same result
(`10_state.md` section 8, derived there). -/
def Obligations.OnlyLiveRegistersMatter : Prop :=
  ∀ a b a' : State, LiveEq a b → a.inp = b.inp → step a = .next a' → ∃ b', step b = .next b' ∧
    LiveEq a' b' ∧
    (a.inp.rst = false → a.phase ≠ .idle → a'.phase = .idle →
      a'.done = true ∧ b'.done = true ∧ ResultEq a' b')

/-- Reads are independent: whatever two idle states hold, the same READ with the same samples after it (none a reset, none
a second request) leads through the same phases to the same ports and the same result (`10_state.md` section 8,
derived there). -/
def Obligations.ReadResultDoesNotDependOnHistory : Prop :=
  ∀ (a b a' : State) (k : Nat), a.phase = .idle → b.phase = .idle →
    a.inp = b.inp → a.pending = b.pending → a.inp.rst = false → a.inp.start = true →
    (∀ p ∈ a.pending, p.rst = false ∧ p.start = false) → k ≤ a.pending.length →
    Host.Core.run core (k + 1) a = .next a' →
    ∃ b', Host.Core.run core (k + 1) b = .next b' ∧ a'.phase = b'.phase ∧ a'.done = b'.done ∧
      a'.lineOe = b'.lineOe ∧ a'.lineOut = b'.lineOut ∧ (a'.done = true → ResultEq a' b')

/-- Every read ends in time: from the acceptance of a READ, over samples that keep the limit of
`00_scope.md` section 6 on `now`, are at most `smax` apart, contain
no reset and last longer than 842250 + 5 · smax microseconds, the block sets `done` at a sample no later than that bound
(`70_reset_and_hazards.md` section 4, derived there; time is assumed to progress, the spec's own decision D23). -/
def Obligations.EveryReadEndsInTime : Prop :=
  ∀ (s : State) (smax : Nat), s.phase = .idle → s.inp.rst = false → s.inp.start = true →
    SpacedBy smax s.inp s.pending → readTimeBound smax < totalTime s.inp s.pending →
    ∃ k s', k ≤ s.pending.length ∧ totalTime s.inp (s.pending.take k) ≤ readTimeBound smax ∧
      Host.Core.run core (k + 1) s = .next s' ∧ s'.phase = .idle ∧ s'.done = true

/-- A sample the model draws when none is listed keeps the spec's limits on the environment: the limit on `now`,
`variant` held, `start` only while `busy = 0` (`00_scope.md` section 6, `60_exceptions.md` section 11; log entry 2). -/
def Obligations.DrawnSamplesKeepTheHostsDuties : Prop :=
  ∀ s s' : State, step s = .next s' → s.pending = [] →
    ClockOk s.inp s'.inp ∧ s'.inp.variant = s.inp.variant ∧ (s'.inp.start = true → s'.busy = false)

end
end

