-- ==== Sys2Proof/Laws/Decode.lean ====
section
/-!
SUPPORT. The small lemmas of the encodings: codes read back, the fields of an operation byte, and that the operation byte
of a state decodes to the operation the state selects.
-/
namespace Sys2Proof

@[simp] theorem Phase.ofCode?_code (p : Phase) : Phase.ofCode? p.code = some p := by
  cases p <;> decide

theorem Phase.ofCode?_eq_none_iff (c : BitVec 3) :
    Phase.ofCode? c = none ↔ c = 0b110 ∨ c = 0b111 := by
  revert c; decide

@[simp] theorem Variant.ofBit_true : Variant.ofBit true = .fix256 := rfl

@[simp] theorem Variant.ofBit_false : Variant.ofBit false = .int8 := rfl

@[simp] theorem cmdWord_start (v : Variant) (start : Bool) : (cmdWord v start).getLsbD 0 = start := by
  cases v <;> cases start <;> decide

@[simp] theorem cmdWord_variant (v : Variant) (start : Bool) :
    Variant.ofBit ((cmdWord v start).getLsbD 1) = v := by
  cases v <;> cases start <;> decide

theorem decodeCmd_cmdWord (v : Variant) (start : Bool) :
    decodeCmd (cmdWord v start) = if start then .read v else .nop v := by
  cases v <;> cases start <;> decide

@[simp] theorem opByte_phase (p : Phase) (cmd : BitVec 2) : (opByte p cmd).extractLsb' 0 3 = p.code := by
  revert cmd; cases p <;> decide

@[simp] theorem opByte_cmd (p : Phase) (cmd : BitVec 2) : (opByte p cmd).extractLsb' 3 2 = cmd := by
  revert cmd; cases p <;> decide

@[simp] theorem opByte_upper (p : Phase) (cmd : BitVec 2) : (opByte p cmd).extractLsb' 5 3 = 0 := by
  revert cmd; cases p <;> decide

/-- The operation byte of a phase and a command decodes to the operation they select. -/
theorem decode_opByte (p : Phase) (cmd : BitVec 2) :
    decode [opByte p cmd] = .ok (decodePhase p cmd) := by
  simp [decode, decodeOpByte]

/-- What a step decodes is what it selects. -/
theorem Machine.decode_fetchByte (s : Machine.State) : decode [s.fetchByte] = .ok s.fetch :=
  decode_opByte s.phase s.cmd

/-- The operation of a step, phase by phase (R71). -/
theorem Machine.fetch_cases (s : Machine.State) :
    s.fetch = match s.phase with
      | .idle => if s.inp.start then .read s.inp.variant else .nop s.inp.variant
      | .hsPoll => .hsPoll
      | .wakeHold => .wakeHold
      | .capRelease => .capRelease
      | .capture => .capture
      | .finish => .finish := by
  unfold Machine.State.fetch Machine.State.cmd
  cases s.phase <;> simp [decodePhase, decodeCmd_cmdWord]

end Sys2Proof
end

