-- ==== Sys2Proof/Laws/State.lean ====
section
/-!
SUPPORT. What each update of the state leaves in each field: one lemma per field per update, true by definition, so that
no proof unfolds an update.
-/
namespace Sys2Proof.Machine

@[simp] theorem State.critEnter_eq (s : State) : s.critEnter = s.setCrit true := rfl

@[simp] theorem State.critExit_eq (s : State) : s.critExit = s.setCrit false := rfl

/-! ### setPhase -/

@[simp] theorem State.setPhase_phase (s : State) (v : Phase) :
    (s.setPhase v).phase = v := rfl
@[simp] theorem State.setPhase_t (s : State) (v : Phase) :
    (s.setPhase v).t = s.t := rfl
@[simp] theorem State.setPhase_n (s : State) (v : Phase) :
    (s.setPhase v).n = s.n := rfl
@[simp] theorem State.setPhase_tRef (s : State) (v : Phase) :
    (s.setPhase v).tRef = s.tRef := rfl
@[simp] theorem State.setPhase_prev (s : State) (v : Phase) :
    (s.setPhase v).prev = s.prev := rfl
@[simp] theorem State.setPhase_var (s : State) (v : Phase) :
    (s.setPhase v).var = s.var := rfl
@[simp] theorem State.setPhase_b (s : State) (v : Phase) :
    (s.setPhase v).b = s.b := rfl
@[simp] theorem State.setPhase_lineOe (s : State) (v : Phase) :
    (s.setPhase v).lineOe = s.lineOe := rfl
@[simp] theorem State.setPhase_lineOut (s : State) (v : Phase) :
    (s.setPhase v).lineOut = s.lineOut := rfl
@[simp] theorem State.setPhase_crit (s : State) (v : Phase) :
    (s.setPhase v).crit = s.crit := rfl
@[simp] theorem State.setPhase_done (s : State) (v : Phase) :
    (s.setPhase v).done = s.done := rfl
@[simp] theorem State.setPhase_resOk (s : State) (v : Phase) :
    (s.setPhase v).resOk = s.resOk := rfl
@[simp] theorem State.setPhase_resKind (s : State) (v : Phase) :
    (s.setPhase v).resKind = s.resKind := rfl
@[simp] theorem State.setPhase_resTemp (s : State) (v : Phase) :
    (s.setPhase v).resTemp = s.resTemp := rfl
@[simp] theorem State.setPhase_resHum (s : State) (v : Phase) :
    (s.setPhase v).resHum = s.resHum := rfl
@[simp] theorem State.setPhase_inp (s : State) (v : Phase) :
    (s.setPhase v).inp = s.inp := rfl
@[simp] theorem State.setPhase_pending (s : State) (v : Phase) :
    (s.setPhase v).pending = s.pending := rfl
@[simp] theorem State.setPhase_tick (s : State) (v : Phase) :
    (s.setPhase v).tick = s.tick := rfl
@[simp] theorem State.setPhase_events (s : State) (v : Phase) :
    (s.setPhase v).events = s.events := rfl

/-! ### setTRef -/

@[simp] theorem State.setTRef_phase (s : State) (v : Word) :
    (s.setTRef v).phase = s.phase := rfl
@[simp] theorem State.setTRef_t (s : State) (v : Word) :
    (s.setTRef v).t = s.t := rfl
@[simp] theorem State.setTRef_n (s : State) (v : Word) :
    (s.setTRef v).n = s.n := rfl
@[simp] theorem State.setTRef_tRef (s : State) (v : Word) :
    (s.setTRef v).tRef = v := rfl
@[simp] theorem State.setTRef_prev (s : State) (v : Word) :
    (s.setTRef v).prev = s.prev := rfl
@[simp] theorem State.setTRef_var (s : State) (v : Word) :
    (s.setTRef v).var = s.var := rfl
@[simp] theorem State.setTRef_b (s : State) (v : Word) :
    (s.setTRef v).b = s.b := rfl
@[simp] theorem State.setTRef_lineOe (s : State) (v : Word) :
    (s.setTRef v).lineOe = s.lineOe := rfl
@[simp] theorem State.setTRef_lineOut (s : State) (v : Word) :
    (s.setTRef v).lineOut = s.lineOut := rfl
@[simp] theorem State.setTRef_crit (s : State) (v : Word) :
    (s.setTRef v).crit = s.crit := rfl
@[simp] theorem State.setTRef_done (s : State) (v : Word) :
    (s.setTRef v).done = s.done := rfl
@[simp] theorem State.setTRef_resOk (s : State) (v : Word) :
    (s.setTRef v).resOk = s.resOk := rfl
@[simp] theorem State.setTRef_resKind (s : State) (v : Word) :
    (s.setTRef v).resKind = s.resKind := rfl
@[simp] theorem State.setTRef_resTemp (s : State) (v : Word) :
    (s.setTRef v).resTemp = s.resTemp := rfl
@[simp] theorem State.setTRef_resHum (s : State) (v : Word) :
    (s.setTRef v).resHum = s.resHum := rfl
@[simp] theorem State.setTRef_inp (s : State) (v : Word) :
    (s.setTRef v).inp = s.inp := rfl
@[simp] theorem State.setTRef_pending (s : State) (v : Word) :
    (s.setTRef v).pending = s.pending := rfl
@[simp] theorem State.setTRef_tick (s : State) (v : Word) :
    (s.setTRef v).tick = s.tick := rfl
@[simp] theorem State.setTRef_events (s : State) (v : Word) :
    (s.setTRef v).events = s.events := rfl

/-! ### setPrev -/

@[simp] theorem State.setPrev_phase (s : State) (v : Bool) :
    (s.setPrev v).phase = s.phase := rfl
@[simp] theorem State.setPrev_t (s : State) (v : Bool) :
    (s.setPrev v).t = s.t := rfl
@[simp] theorem State.setPrev_n (s : State) (v : Bool) :
    (s.setPrev v).n = s.n := rfl
@[simp] theorem State.setPrev_tRef (s : State) (v : Bool) :
    (s.setPrev v).tRef = s.tRef := rfl
@[simp] theorem State.setPrev_prev (s : State) (v : Bool) :
    (s.setPrev v).prev = v := rfl
@[simp] theorem State.setPrev_var (s : State) (v : Bool) :
    (s.setPrev v).var = s.var := rfl
@[simp] theorem State.setPrev_b (s : State) (v : Bool) :
    (s.setPrev v).b = s.b := rfl
@[simp] theorem State.setPrev_lineOe (s : State) (v : Bool) :
    (s.setPrev v).lineOe = s.lineOe := rfl
@[simp] theorem State.setPrev_lineOut (s : State) (v : Bool) :
    (s.setPrev v).lineOut = s.lineOut := rfl
@[simp] theorem State.setPrev_crit (s : State) (v : Bool) :
    (s.setPrev v).crit = s.crit := rfl
@[simp] theorem State.setPrev_done (s : State) (v : Bool) :
    (s.setPrev v).done = s.done := rfl
@[simp] theorem State.setPrev_resOk (s : State) (v : Bool) :
    (s.setPrev v).resOk = s.resOk := rfl
@[simp] theorem State.setPrev_resKind (s : State) (v : Bool) :
    (s.setPrev v).resKind = s.resKind := rfl
@[simp] theorem State.setPrev_resTemp (s : State) (v : Bool) :
    (s.setPrev v).resTemp = s.resTemp := rfl
@[simp] theorem State.setPrev_resHum (s : State) (v : Bool) :
    (s.setPrev v).resHum = s.resHum := rfl
@[simp] theorem State.setPrev_inp (s : State) (v : Bool) :
    (s.setPrev v).inp = s.inp := rfl
@[simp] theorem State.setPrev_pending (s : State) (v : Bool) :
    (s.setPrev v).pending = s.pending := rfl
@[simp] theorem State.setPrev_tick (s : State) (v : Bool) :
    (s.setPrev v).tick = s.tick := rfl
@[simp] theorem State.setPrev_events (s : State) (v : Bool) :
    (s.setPrev v).events = s.events := rfl

/-! ### setVar -/

@[simp] theorem State.setVar_phase (s : State) (v : Variant) :
    (s.setVar v).phase = s.phase := rfl
@[simp] theorem State.setVar_t (s : State) (v : Variant) :
    (s.setVar v).t = s.t := rfl
@[simp] theorem State.setVar_n (s : State) (v : Variant) :
    (s.setVar v).n = s.n := rfl
@[simp] theorem State.setVar_tRef (s : State) (v : Variant) :
    (s.setVar v).tRef = s.tRef := rfl
@[simp] theorem State.setVar_prev (s : State) (v : Variant) :
    (s.setVar v).prev = s.prev := rfl
@[simp] theorem State.setVar_var (s : State) (v : Variant) :
    (s.setVar v).var = v := rfl
@[simp] theorem State.setVar_b (s : State) (v : Variant) :
    (s.setVar v).b = s.b := rfl
@[simp] theorem State.setVar_lineOe (s : State) (v : Variant) :
    (s.setVar v).lineOe = s.lineOe := rfl
@[simp] theorem State.setVar_lineOut (s : State) (v : Variant) :
    (s.setVar v).lineOut = s.lineOut := rfl
@[simp] theorem State.setVar_crit (s : State) (v : Variant) :
    (s.setVar v).crit = s.crit := rfl
@[simp] theorem State.setVar_done (s : State) (v : Variant) :
    (s.setVar v).done = s.done := rfl
@[simp] theorem State.setVar_resOk (s : State) (v : Variant) :
    (s.setVar v).resOk = s.resOk := rfl
@[simp] theorem State.setVar_resKind (s : State) (v : Variant) :
    (s.setVar v).resKind = s.resKind := rfl
@[simp] theorem State.setVar_resTemp (s : State) (v : Variant) :
    (s.setVar v).resTemp = s.resTemp := rfl
@[simp] theorem State.setVar_resHum (s : State) (v : Variant) :
    (s.setVar v).resHum = s.resHum := rfl
@[simp] theorem State.setVar_inp (s : State) (v : Variant) :
    (s.setVar v).inp = s.inp := rfl
@[simp] theorem State.setVar_pending (s : State) (v : Variant) :
    (s.setVar v).pending = s.pending := rfl
@[simp] theorem State.setVar_tick (s : State) (v : Variant) :
    (s.setVar v).tick = s.tick := rfl
@[simp] theorem State.setVar_events (s : State) (v : Variant) :
    (s.setVar v).events = s.events := rfl

/-! ### setCount -/

@[simp] theorem State.setCount_phase (s : State) (v : Count) :
    (s.setCount v).phase = s.phase := rfl
@[simp] theorem State.setCount_t (s : State) (v : Count) :
    (s.setCount v).t = s.t := rfl
@[simp] theorem State.setCount_n (s : State) (v : Count) :
    (s.setCount v).n = v := rfl
@[simp] theorem State.setCount_tRef (s : State) (v : Count) :
    (s.setCount v).tRef = s.tRef := rfl
@[simp] theorem State.setCount_prev (s : State) (v : Count) :
    (s.setCount v).prev = s.prev := rfl
@[simp] theorem State.setCount_var (s : State) (v : Count) :
    (s.setCount v).var = s.var := rfl
@[simp] theorem State.setCount_b (s : State) (v : Count) :
    (s.setCount v).b = s.b := rfl
@[simp] theorem State.setCount_lineOe (s : State) (v : Count) :
    (s.setCount v).lineOe = s.lineOe := rfl
@[simp] theorem State.setCount_lineOut (s : State) (v : Count) :
    (s.setCount v).lineOut = s.lineOut := rfl
@[simp] theorem State.setCount_crit (s : State) (v : Count) :
    (s.setCount v).crit = s.crit := rfl
@[simp] theorem State.setCount_done (s : State) (v : Count) :
    (s.setCount v).done = s.done := rfl
@[simp] theorem State.setCount_resOk (s : State) (v : Count) :
    (s.setCount v).resOk = s.resOk := rfl
@[simp] theorem State.setCount_resKind (s : State) (v : Count) :
    (s.setCount v).resKind = s.resKind := rfl
@[simp] theorem State.setCount_resTemp (s : State) (v : Count) :
    (s.setCount v).resTemp = s.resTemp := rfl
@[simp] theorem State.setCount_resHum (s : State) (v : Count) :
    (s.setCount v).resHum = s.resHum := rfl
@[simp] theorem State.setCount_inp (s : State) (v : Count) :
    (s.setCount v).inp = s.inp := rfl
@[simp] theorem State.setCount_pending (s : State) (v : Count) :
    (s.setCount v).pending = s.pending := rfl
@[simp] theorem State.setCount_tick (s : State) (v : Count) :
    (s.setCount v).tick = s.tick := rfl
@[simp] theorem State.setCount_events (s : State) (v : Count) :
    (s.setCount v).events = s.events := rfl

/-! ### setFrame -/

@[simp] theorem State.setFrame_phase (s : State) (v : Frame) :
    (s.setFrame v).phase = s.phase := rfl
@[simp] theorem State.setFrame_t (s : State) (v : Frame) :
    (s.setFrame v).t = s.t := rfl
@[simp] theorem State.setFrame_n (s : State) (v : Frame) :
    (s.setFrame v).n = s.n := rfl
@[simp] theorem State.setFrame_tRef (s : State) (v : Frame) :
    (s.setFrame v).tRef = s.tRef := rfl
@[simp] theorem State.setFrame_prev (s : State) (v : Frame) :
    (s.setFrame v).prev = s.prev := rfl
@[simp] theorem State.setFrame_var (s : State) (v : Frame) :
    (s.setFrame v).var = s.var := rfl
@[simp] theorem State.setFrame_b (s : State) (v : Frame) :
    (s.setFrame v).b = v := rfl
@[simp] theorem State.setFrame_lineOe (s : State) (v : Frame) :
    (s.setFrame v).lineOe = s.lineOe := rfl
@[simp] theorem State.setFrame_lineOut (s : State) (v : Frame) :
    (s.setFrame v).lineOut = s.lineOut := rfl
@[simp] theorem State.setFrame_crit (s : State) (v : Frame) :
    (s.setFrame v).crit = s.crit := rfl
@[simp] theorem State.setFrame_done (s : State) (v : Frame) :
    (s.setFrame v).done = s.done := rfl
@[simp] theorem State.setFrame_resOk (s : State) (v : Frame) :
    (s.setFrame v).resOk = s.resOk := rfl
@[simp] theorem State.setFrame_resKind (s : State) (v : Frame) :
    (s.setFrame v).resKind = s.resKind := rfl
@[simp] theorem State.setFrame_resTemp (s : State) (v : Frame) :
    (s.setFrame v).resTemp = s.resTemp := rfl
@[simp] theorem State.setFrame_resHum (s : State) (v : Frame) :
    (s.setFrame v).resHum = s.resHum := rfl
@[simp] theorem State.setFrame_inp (s : State) (v : Frame) :
    (s.setFrame v).inp = s.inp := rfl
@[simp] theorem State.setFrame_pending (s : State) (v : Frame) :
    (s.setFrame v).pending = s.pending := rfl
@[simp] theorem State.setFrame_tick (s : State) (v : Frame) :
    (s.setFrame v).tick = s.tick := rfl
@[simp] theorem State.setFrame_events (s : State) (v : Frame) :
    (s.setFrame v).events = s.events := rfl

/-! ### setResOk -/

@[simp] theorem State.setResOk_phase (s : State) (v : Bool) :
    (s.setResOk v).phase = s.phase := rfl
@[simp] theorem State.setResOk_t (s : State) (v : Bool) :
    (s.setResOk v).t = s.t := rfl
@[simp] theorem State.setResOk_n (s : State) (v : Bool) :
    (s.setResOk v).n = s.n := rfl
@[simp] theorem State.setResOk_tRef (s : State) (v : Bool) :
    (s.setResOk v).tRef = s.tRef := rfl
@[simp] theorem State.setResOk_prev (s : State) (v : Bool) :
    (s.setResOk v).prev = s.prev := rfl
@[simp] theorem State.setResOk_var (s : State) (v : Bool) :
    (s.setResOk v).var = s.var := rfl
@[simp] theorem State.setResOk_b (s : State) (v : Bool) :
    (s.setResOk v).b = s.b := rfl
@[simp] theorem State.setResOk_lineOe (s : State) (v : Bool) :
    (s.setResOk v).lineOe = s.lineOe := rfl
@[simp] theorem State.setResOk_lineOut (s : State) (v : Bool) :
    (s.setResOk v).lineOut = s.lineOut := rfl
@[simp] theorem State.setResOk_crit (s : State) (v : Bool) :
    (s.setResOk v).crit = s.crit := rfl
@[simp] theorem State.setResOk_done (s : State) (v : Bool) :
    (s.setResOk v).done = s.done := rfl
@[simp] theorem State.setResOk_resOk (s : State) (v : Bool) :
    (s.setResOk v).resOk = v := rfl
@[simp] theorem State.setResOk_resKind (s : State) (v : Bool) :
    (s.setResOk v).resKind = s.resKind := rfl
@[simp] theorem State.setResOk_resTemp (s : State) (v : Bool) :
    (s.setResOk v).resTemp = s.resTemp := rfl
@[simp] theorem State.setResOk_resHum (s : State) (v : Bool) :
    (s.setResOk v).resHum = s.resHum := rfl
@[simp] theorem State.setResOk_inp (s : State) (v : Bool) :
    (s.setResOk v).inp = s.inp := rfl
@[simp] theorem State.setResOk_pending (s : State) (v : Bool) :
    (s.setResOk v).pending = s.pending := rfl
@[simp] theorem State.setResOk_tick (s : State) (v : Bool) :
    (s.setResOk v).tick = s.tick := rfl
@[simp] theorem State.setResOk_events (s : State) (v : Bool) :
    (s.setResOk v).events = s.events := rfl

/-! ### setResKind -/

@[simp] theorem State.setResKind_phase (s : State) (v : ErrorKind) :
    (s.setResKind v).phase = s.phase := rfl
@[simp] theorem State.setResKind_t (s : State) (v : ErrorKind) :
    (s.setResKind v).t = s.t := rfl
@[simp] theorem State.setResKind_n (s : State) (v : ErrorKind) :
    (s.setResKind v).n = s.n := rfl
@[simp] theorem State.setResKind_tRef (s : State) (v : ErrorKind) :
    (s.setResKind v).tRef = s.tRef := rfl
@[simp] theorem State.setResKind_prev (s : State) (v : ErrorKind) :
    (s.setResKind v).prev = s.prev := rfl
@[simp] theorem State.setResKind_var (s : State) (v : ErrorKind) :
    (s.setResKind v).var = s.var := rfl
@[simp] theorem State.setResKind_b (s : State) (v : ErrorKind) :
    (s.setResKind v).b = s.b := rfl
@[simp] theorem State.setResKind_lineOe (s : State) (v : ErrorKind) :
    (s.setResKind v).lineOe = s.lineOe := rfl
@[simp] theorem State.setResKind_lineOut (s : State) (v : ErrorKind) :
    (s.setResKind v).lineOut = s.lineOut := rfl
@[simp] theorem State.setResKind_crit (s : State) (v : ErrorKind) :
    (s.setResKind v).crit = s.crit := rfl
@[simp] theorem State.setResKind_done (s : State) (v : ErrorKind) :
    (s.setResKind v).done = s.done := rfl
@[simp] theorem State.setResKind_resOk (s : State) (v : ErrorKind) :
    (s.setResKind v).resOk = s.resOk := rfl
@[simp] theorem State.setResKind_resKind (s : State) (v : ErrorKind) :
    (s.setResKind v).resKind = v := rfl
@[simp] theorem State.setResKind_resTemp (s : State) (v : ErrorKind) :
    (s.setResKind v).resTemp = s.resTemp := rfl
@[simp] theorem State.setResKind_resHum (s : State) (v : ErrorKind) :
    (s.setResKind v).resHum = s.resHum := rfl
@[simp] theorem State.setResKind_inp (s : State) (v : ErrorKind) :
    (s.setResKind v).inp = s.inp := rfl
@[simp] theorem State.setResKind_pending (s : State) (v : ErrorKind) :
    (s.setResKind v).pending = s.pending := rfl
@[simp] theorem State.setResKind_tick (s : State) (v : ErrorKind) :
    (s.setResKind v).tick = s.tick := rfl
@[simp] theorem State.setResKind_events (s : State) (v : ErrorKind) :
    (s.setResKind v).events = s.events := rfl

/-! ### setResTemp -/

@[simp] theorem State.setResTemp_phase (s : State) (v : Half) :
    (s.setResTemp v).phase = s.phase := rfl
@[simp] theorem State.setResTemp_t (s : State) (v : Half) :
    (s.setResTemp v).t = s.t := rfl
@[simp] theorem State.setResTemp_n (s : State) (v : Half) :
    (s.setResTemp v).n = s.n := rfl
@[simp] theorem State.setResTemp_tRef (s : State) (v : Half) :
    (s.setResTemp v).tRef = s.tRef := rfl
@[simp] theorem State.setResTemp_prev (s : State) (v : Half) :
    (s.setResTemp v).prev = s.prev := rfl
@[simp] theorem State.setResTemp_var (s : State) (v : Half) :
    (s.setResTemp v).var = s.var := rfl
@[simp] theorem State.setResTemp_b (s : State) (v : Half) :
    (s.setResTemp v).b = s.b := rfl
@[simp] theorem State.setResTemp_lineOe (s : State) (v : Half) :
    (s.setResTemp v).lineOe = s.lineOe := rfl
@[simp] theorem State.setResTemp_lineOut (s : State) (v : Half) :
    (s.setResTemp v).lineOut = s.lineOut := rfl
@[simp] theorem State.setResTemp_crit (s : State) (v : Half) :
    (s.setResTemp v).crit = s.crit := rfl
@[simp] theorem State.setResTemp_done (s : State) (v : Half) :
    (s.setResTemp v).done = s.done := rfl
@[simp] theorem State.setResTemp_resOk (s : State) (v : Half) :
    (s.setResTemp v).resOk = s.resOk := rfl
@[simp] theorem State.setResTemp_resKind (s : State) (v : Half) :
    (s.setResTemp v).resKind = s.resKind := rfl
@[simp] theorem State.setResTemp_resTemp (s : State) (v : Half) :
    (s.setResTemp v).resTemp = v := rfl
@[simp] theorem State.setResTemp_resHum (s : State) (v : Half) :
    (s.setResTemp v).resHum = s.resHum := rfl
@[simp] theorem State.setResTemp_inp (s : State) (v : Half) :
    (s.setResTemp v).inp = s.inp := rfl
@[simp] theorem State.setResTemp_pending (s : State) (v : Half) :
    (s.setResTemp v).pending = s.pending := rfl
@[simp] theorem State.setResTemp_tick (s : State) (v : Half) :
    (s.setResTemp v).tick = s.tick := rfl
@[simp] theorem State.setResTemp_events (s : State) (v : Half) :
    (s.setResTemp v).events = s.events := rfl

/-! ### setResHum -/

@[simp] theorem State.setResHum_phase (s : State) (v : Half) :
    (s.setResHum v).phase = s.phase := rfl
@[simp] theorem State.setResHum_t (s : State) (v : Half) :
    (s.setResHum v).t = s.t := rfl
@[simp] theorem State.setResHum_n (s : State) (v : Half) :
    (s.setResHum v).n = s.n := rfl
@[simp] theorem State.setResHum_tRef (s : State) (v : Half) :
    (s.setResHum v).tRef = s.tRef := rfl
@[simp] theorem State.setResHum_prev (s : State) (v : Half) :
    (s.setResHum v).prev = s.prev := rfl
@[simp] theorem State.setResHum_var (s : State) (v : Half) :
    (s.setResHum v).var = s.var := rfl
@[simp] theorem State.setResHum_b (s : State) (v : Half) :
    (s.setResHum v).b = s.b := rfl
@[simp] theorem State.setResHum_lineOe (s : State) (v : Half) :
    (s.setResHum v).lineOe = s.lineOe := rfl
@[simp] theorem State.setResHum_lineOut (s : State) (v : Half) :
    (s.setResHum v).lineOut = s.lineOut := rfl
@[simp] theorem State.setResHum_crit (s : State) (v : Half) :
    (s.setResHum v).crit = s.crit := rfl
@[simp] theorem State.setResHum_done (s : State) (v : Half) :
    (s.setResHum v).done = s.done := rfl
@[simp] theorem State.setResHum_resOk (s : State) (v : Half) :
    (s.setResHum v).resOk = s.resOk := rfl
@[simp] theorem State.setResHum_resKind (s : State) (v : Half) :
    (s.setResHum v).resKind = s.resKind := rfl
@[simp] theorem State.setResHum_resTemp (s : State) (v : Half) :
    (s.setResHum v).resTemp = s.resTemp := rfl
@[simp] theorem State.setResHum_resHum (s : State) (v : Half) :
    (s.setResHum v).resHum = v := rfl
@[simp] theorem State.setResHum_inp (s : State) (v : Half) :
    (s.setResHum v).inp = s.inp := rfl
@[simp] theorem State.setResHum_pending (s : State) (v : Half) :
    (s.setResHum v).pending = s.pending := rfl
@[simp] theorem State.setResHum_tick (s : State) (v : Half) :
    (s.setResHum v).tick = s.tick := rfl
@[simp] theorem State.setResHum_events (s : State) (v : Half) :
    (s.setResHum v).events = s.events := rfl

/-! ### lineWrite -/

@[simp] theorem State.lineWrite_phase (s : State) (v : Bool) :
    (s.lineWrite v).phase = s.phase := rfl
@[simp] theorem State.lineWrite_t (s : State) (v : Bool) :
    (s.lineWrite v).t = s.t := rfl
@[simp] theorem State.lineWrite_n (s : State) (v : Bool) :
    (s.lineWrite v).n = s.n := rfl
@[simp] theorem State.lineWrite_tRef (s : State) (v : Bool) :
    (s.lineWrite v).tRef = s.tRef := rfl
@[simp] theorem State.lineWrite_prev (s : State) (v : Bool) :
    (s.lineWrite v).prev = s.prev := rfl
@[simp] theorem State.lineWrite_var (s : State) (v : Bool) :
    (s.lineWrite v).var = s.var := rfl
@[simp] theorem State.lineWrite_b (s : State) (v : Bool) :
    (s.lineWrite v).b = s.b := rfl
@[simp] theorem State.lineWrite_lineOe (s : State) (v : Bool) :
    (s.lineWrite v).lineOe = s.lineOe := rfl
@[simp] theorem State.lineWrite_lineOut (s : State) (v : Bool) :
    (s.lineWrite v).lineOut = v := rfl
@[simp] theorem State.lineWrite_crit (s : State) (v : Bool) :
    (s.lineWrite v).crit = s.crit := rfl
@[simp] theorem State.lineWrite_done (s : State) (v : Bool) :
    (s.lineWrite v).done = s.done := rfl
@[simp] theorem State.lineWrite_resOk (s : State) (v : Bool) :
    (s.lineWrite v).resOk = s.resOk := rfl
@[simp] theorem State.lineWrite_resKind (s : State) (v : Bool) :
    (s.lineWrite v).resKind = s.resKind := rfl
@[simp] theorem State.lineWrite_resTemp (s : State) (v : Bool) :
    (s.lineWrite v).resTemp = s.resTemp := rfl
@[simp] theorem State.lineWrite_resHum (s : State) (v : Bool) :
    (s.lineWrite v).resHum = s.resHum := rfl
@[simp] theorem State.lineWrite_inp (s : State) (v : Bool) :
    (s.lineWrite v).inp = s.inp := rfl
@[simp] theorem State.lineWrite_pending (s : State) (v : Bool) :
    (s.lineWrite v).pending = s.pending := rfl
@[simp] theorem State.lineWrite_tick (s : State) (v : Bool) :
    (s.lineWrite v).tick = s.tick := rfl
@[simp] theorem State.lineWrite_events (s : State) (v : Bool) :
    (s.lineWrite v).events = s.events ++ [⟨s.tick, .lineOut v⟩] := rfl

/-! ### lineDir -/

@[simp] theorem State.lineDir_phase (s : State) (v : Bool) :
    (s.lineDir v).phase = s.phase := rfl
@[simp] theorem State.lineDir_t (s : State) (v : Bool) :
    (s.lineDir v).t = s.t := rfl
@[simp] theorem State.lineDir_n (s : State) (v : Bool) :
    (s.lineDir v).n = s.n := rfl
@[simp] theorem State.lineDir_tRef (s : State) (v : Bool) :
    (s.lineDir v).tRef = s.tRef := rfl
@[simp] theorem State.lineDir_prev (s : State) (v : Bool) :
    (s.lineDir v).prev = s.prev := rfl
@[simp] theorem State.lineDir_var (s : State) (v : Bool) :
    (s.lineDir v).var = s.var := rfl
@[simp] theorem State.lineDir_b (s : State) (v : Bool) :
    (s.lineDir v).b = s.b := rfl
@[simp] theorem State.lineDir_lineOe (s : State) (v : Bool) :
    (s.lineDir v).lineOe = v := rfl
@[simp] theorem State.lineDir_lineOut (s : State) (v : Bool) :
    (s.lineDir v).lineOut = s.lineOut := rfl
@[simp] theorem State.lineDir_crit (s : State) (v : Bool) :
    (s.lineDir v).crit = s.crit := rfl
@[simp] theorem State.lineDir_done (s : State) (v : Bool) :
    (s.lineDir v).done = s.done := rfl
@[simp] theorem State.lineDir_resOk (s : State) (v : Bool) :
    (s.lineDir v).resOk = s.resOk := rfl
@[simp] theorem State.lineDir_resKind (s : State) (v : Bool) :
    (s.lineDir v).resKind = s.resKind := rfl
@[simp] theorem State.lineDir_resTemp (s : State) (v : Bool) :
    (s.lineDir v).resTemp = s.resTemp := rfl
@[simp] theorem State.lineDir_resHum (s : State) (v : Bool) :
    (s.lineDir v).resHum = s.resHum := rfl
@[simp] theorem State.lineDir_inp (s : State) (v : Bool) :
    (s.lineDir v).inp = s.inp := rfl
@[simp] theorem State.lineDir_pending (s : State) (v : Bool) :
    (s.lineDir v).pending = s.pending := rfl
@[simp] theorem State.lineDir_tick (s : State) (v : Bool) :
    (s.lineDir v).tick = s.tick := rfl
@[simp] theorem State.lineDir_events (s : State) (v : Bool) :
    (s.lineDir v).events = s.events ++ [⟨s.tick, .lineOe v⟩] := rfl

/-! ### setCrit -/

@[simp] theorem State.setCrit_phase (s : State) (v : Bool) :
    (s.setCrit v).phase = s.phase := rfl
@[simp] theorem State.setCrit_t (s : State) (v : Bool) :
    (s.setCrit v).t = s.t := rfl
@[simp] theorem State.setCrit_n (s : State) (v : Bool) :
    (s.setCrit v).n = s.n := rfl
@[simp] theorem State.setCrit_tRef (s : State) (v : Bool) :
    (s.setCrit v).tRef = s.tRef := rfl
@[simp] theorem State.setCrit_prev (s : State) (v : Bool) :
    (s.setCrit v).prev = s.prev := rfl
@[simp] theorem State.setCrit_var (s : State) (v : Bool) :
    (s.setCrit v).var = s.var := rfl
@[simp] theorem State.setCrit_b (s : State) (v : Bool) :
    (s.setCrit v).b = s.b := rfl
@[simp] theorem State.setCrit_lineOe (s : State) (v : Bool) :
    (s.setCrit v).lineOe = s.lineOe := rfl
@[simp] theorem State.setCrit_lineOut (s : State) (v : Bool) :
    (s.setCrit v).lineOut = s.lineOut := rfl
@[simp] theorem State.setCrit_crit (s : State) (v : Bool) :
    (s.setCrit v).crit = v := rfl
@[simp] theorem State.setCrit_done (s : State) (v : Bool) :
    (s.setCrit v).done = s.done := rfl
@[simp] theorem State.setCrit_resOk (s : State) (v : Bool) :
    (s.setCrit v).resOk = s.resOk := rfl
@[simp] theorem State.setCrit_resKind (s : State) (v : Bool) :
    (s.setCrit v).resKind = s.resKind := rfl
@[simp] theorem State.setCrit_resTemp (s : State) (v : Bool) :
    (s.setCrit v).resTemp = s.resTemp := rfl
@[simp] theorem State.setCrit_resHum (s : State) (v : Bool) :
    (s.setCrit v).resHum = s.resHum := rfl
@[simp] theorem State.setCrit_inp (s : State) (v : Bool) :
    (s.setCrit v).inp = s.inp := rfl
@[simp] theorem State.setCrit_pending (s : State) (v : Bool) :
    (s.setCrit v).pending = s.pending := rfl
@[simp] theorem State.setCrit_tick (s : State) (v : Bool) :
    (s.setCrit v).tick = s.tick := rfl
@[simp] theorem State.setCrit_events (s : State) (v : Bool) :
    (s.setCrit v).events = s.events ++ [⟨s.tick, .crit v⟩] := rfl

/-! ### setDone -/

@[simp] theorem State.setDone_phase (s : State) (v : Bool) :
    (s.setDone v).phase = s.phase := rfl
@[simp] theorem State.setDone_t (s : State) (v : Bool) :
    (s.setDone v).t = s.t := rfl
@[simp] theorem State.setDone_n (s : State) (v : Bool) :
    (s.setDone v).n = s.n := rfl
@[simp] theorem State.setDone_tRef (s : State) (v : Bool) :
    (s.setDone v).tRef = s.tRef := rfl
@[simp] theorem State.setDone_prev (s : State) (v : Bool) :
    (s.setDone v).prev = s.prev := rfl
@[simp] theorem State.setDone_var (s : State) (v : Bool) :
    (s.setDone v).var = s.var := rfl
@[simp] theorem State.setDone_b (s : State) (v : Bool) :
    (s.setDone v).b = s.b := rfl
@[simp] theorem State.setDone_lineOe (s : State) (v : Bool) :
    (s.setDone v).lineOe = s.lineOe := rfl
@[simp] theorem State.setDone_lineOut (s : State) (v : Bool) :
    (s.setDone v).lineOut = s.lineOut := rfl
@[simp] theorem State.setDone_crit (s : State) (v : Bool) :
    (s.setDone v).crit = s.crit := rfl
@[simp] theorem State.setDone_done (s : State) (v : Bool) :
    (s.setDone v).done = v := rfl
@[simp] theorem State.setDone_resOk (s : State) (v : Bool) :
    (s.setDone v).resOk = s.resOk := rfl
@[simp] theorem State.setDone_resKind (s : State) (v : Bool) :
    (s.setDone v).resKind = s.resKind := rfl
@[simp] theorem State.setDone_resTemp (s : State) (v : Bool) :
    (s.setDone v).resTemp = s.resTemp := rfl
@[simp] theorem State.setDone_resHum (s : State) (v : Bool) :
    (s.setDone v).resHum = s.resHum := rfl
@[simp] theorem State.setDone_inp (s : State) (v : Bool) :
    (s.setDone v).inp = s.inp := rfl
@[simp] theorem State.setDone_pending (s : State) (v : Bool) :
    (s.setDone v).pending = s.pending := rfl
@[simp] theorem State.setDone_tick (s : State) (v : Bool) :
    (s.setDone v).tick = s.tick := rfl
@[simp] theorem State.setDone_events (s : State) (v : Bool) :
    (s.setDone v).events = s.events ++ [⟨s.tick, .done v⟩] := rfl

/-! ### storeBaseline -/

@[simp] theorem State.storeBaseline_phase (s : State) (v : Word) :
    (s.storeBaseline v).phase = s.phase := rfl
@[simp] theorem State.storeBaseline_t (s : State) (v : Word) :
    (s.storeBaseline v).t = s.t.set 0 v := rfl
@[simp] theorem State.storeBaseline_n (s : State) (v : Word) :
    (s.storeBaseline v).n = s.n := rfl
@[simp] theorem State.storeBaseline_tRef (s : State) (v : Word) :
    (s.storeBaseline v).tRef = s.tRef := rfl
@[simp] theorem State.storeBaseline_prev (s : State) (v : Word) :
    (s.storeBaseline v).prev = s.prev := rfl
@[simp] theorem State.storeBaseline_var (s : State) (v : Word) :
    (s.storeBaseline v).var = s.var := rfl
@[simp] theorem State.storeBaseline_b (s : State) (v : Word) :
    (s.storeBaseline v).b = s.b := rfl
@[simp] theorem State.storeBaseline_lineOe (s : State) (v : Word) :
    (s.storeBaseline v).lineOe = s.lineOe := rfl
@[simp] theorem State.storeBaseline_lineOut (s : State) (v : Word) :
    (s.storeBaseline v).lineOut = s.lineOut := rfl
@[simp] theorem State.storeBaseline_crit (s : State) (v : Word) :
    (s.storeBaseline v).crit = s.crit := rfl
@[simp] theorem State.storeBaseline_done (s : State) (v : Word) :
    (s.storeBaseline v).done = s.done := rfl
@[simp] theorem State.storeBaseline_resOk (s : State) (v : Word) :
    (s.storeBaseline v).resOk = s.resOk := rfl
@[simp] theorem State.storeBaseline_resKind (s : State) (v : Word) :
    (s.storeBaseline v).resKind = s.resKind := rfl
@[simp] theorem State.storeBaseline_resTemp (s : State) (v : Word) :
    (s.storeBaseline v).resTemp = s.resTemp := rfl
@[simp] theorem State.storeBaseline_resHum (s : State) (v : Word) :
    (s.storeBaseline v).resHum = s.resHum := rfl
@[simp] theorem State.storeBaseline_inp (s : State) (v : Word) :
    (s.storeBaseline v).inp = s.inp := rfl
@[simp] theorem State.storeBaseline_pending (s : State) (v : Word) :
    (s.storeBaseline v).pending = s.pending := rfl
@[simp] theorem State.storeBaseline_tick (s : State) (v : Word) :
    (s.storeBaseline v).tick = s.tick := rfl
@[simp] theorem State.storeBaseline_events (s : State) (v : Word) :
    (s.storeBaseline v).events = s.events := rfl

/-! ### raise -/

@[simp] theorem State.raise_phase (s : State) (k : ErrorKind) :
    (s.raise k).phase = .idle := rfl
@[simp] theorem State.raise_t (s : State) (k : ErrorKind) :
    (s.raise k).t = s.t := rfl
@[simp] theorem State.raise_n (s : State) (k : ErrorKind) :
    (s.raise k).n = s.n := rfl
@[simp] theorem State.raise_tRef (s : State) (k : ErrorKind) :
    (s.raise k).tRef = s.tRef := rfl
@[simp] theorem State.raise_prev (s : State) (k : ErrorKind) :
    (s.raise k).prev = s.prev := rfl
@[simp] theorem State.raise_var (s : State) (k : ErrorKind) :
    (s.raise k).var = s.var := rfl
@[simp] theorem State.raise_b (s : State) (k : ErrorKind) :
    (s.raise k).b = s.b := rfl
@[simp] theorem State.raise_lineOe (s : State) (k : ErrorKind) :
    (s.raise k).lineOe = s.lineOe := rfl
@[simp] theorem State.raise_lineOut (s : State) (k : ErrorKind) :
    (s.raise k).lineOut = s.lineOut := rfl
@[simp] theorem State.raise_crit (s : State) (k : ErrorKind) :
    (s.raise k).crit = s.crit := rfl
@[simp] theorem State.raise_done (s : State) (k : ErrorKind) :
    (s.raise k).done = true := rfl
@[simp] theorem State.raise_resOk (s : State) (k : ErrorKind) :
    (s.raise k).resOk = false := rfl
@[simp] theorem State.raise_resKind (s : State) (k : ErrorKind) :
    (s.raise k).resKind = k := rfl
@[simp] theorem State.raise_resTemp (s : State) (k : ErrorKind) :
    (s.raise k).resTemp = Config.freeTemp s.tick := rfl
@[simp] theorem State.raise_resHum (s : State) (k : ErrorKind) :
    (s.raise k).resHum = Config.freeHum s.tick := rfl
@[simp] theorem State.raise_inp (s : State) (k : ErrorKind) :
    (s.raise k).inp = s.inp := rfl
@[simp] theorem State.raise_pending (s : State) (k : ErrorKind) :
    (s.raise k).pending = s.pending := rfl
@[simp] theorem State.raise_tick (s : State) (k : ErrorKind) :
    (s.raise k).tick = s.tick := rfl
@[simp] theorem State.raise_events (s : State) (k : ErrorKind) :
    (s.raise k).events = s.events ++ [⟨s.tick, .done true⟩] := rfl

/-! ### returnSuccess -/

@[simp] theorem State.returnSuccess_phase (s : State) (temp hum : Half) :
    (s.returnSuccess temp hum).phase = .idle := rfl
@[simp] theorem State.returnSuccess_t (s : State) (temp hum : Half) :
    (s.returnSuccess temp hum).t = s.t := rfl
@[simp] theorem State.returnSuccess_n (s : State) (temp hum : Half) :
    (s.returnSuccess temp hum).n = s.n := rfl
@[simp] theorem State.returnSuccess_tRef (s : State) (temp hum : Half) :
    (s.returnSuccess temp hum).tRef = s.tRef := rfl
@[simp] theorem State.returnSuccess_prev (s : State) (temp hum : Half) :
    (s.returnSuccess temp hum).prev = s.prev := rfl
@[simp] theorem State.returnSuccess_var (s : State) (temp hum : Half) :
    (s.returnSuccess temp hum).var = s.var := rfl
@[simp] theorem State.returnSuccess_b (s : State) (temp hum : Half) :
    (s.returnSuccess temp hum).b = s.b := rfl
@[simp] theorem State.returnSuccess_lineOe (s : State) (temp hum : Half) :
    (s.returnSuccess temp hum).lineOe = s.lineOe := rfl
@[simp] theorem State.returnSuccess_lineOut (s : State) (temp hum : Half) :
    (s.returnSuccess temp hum).lineOut = s.lineOut := rfl
@[simp] theorem State.returnSuccess_crit (s : State) (temp hum : Half) :
    (s.returnSuccess temp hum).crit = s.crit := rfl
@[simp] theorem State.returnSuccess_done (s : State) (temp hum : Half) :
    (s.returnSuccess temp hum).done = true := rfl
@[simp] theorem State.returnSuccess_resOk (s : State) (temp hum : Half) :
    (s.returnSuccess temp hum).resOk = true := rfl
@[simp] theorem State.returnSuccess_resKind (s : State) (temp hum : Half) :
    (s.returnSuccess temp hum).resKind = Config.freeKind s.tick := rfl
@[simp] theorem State.returnSuccess_resTemp (s : State) (temp hum : Half) :
    (s.returnSuccess temp hum).resTemp = temp := rfl
@[simp] theorem State.returnSuccess_resHum (s : State) (temp hum : Half) :
    (s.returnSuccess temp hum).resHum = hum := rfl
@[simp] theorem State.returnSuccess_inp (s : State) (temp hum : Half) :
    (s.returnSuccess temp hum).inp = s.inp := rfl
@[simp] theorem State.returnSuccess_pending (s : State) (temp hum : Half) :
    (s.returnSuccess temp hum).pending = s.pending := rfl
@[simp] theorem State.returnSuccess_tick (s : State) (temp hum : Half) :
    (s.returnSuccess temp hum).tick = s.tick := rfl
@[simp] theorem State.returnSuccess_events (s : State) (temp hum : Half) :
    (s.returnSuccess temp hum).events = s.events ++ [⟨s.tick, .done true⟩] := rfl

/-! ### leaveCapture -/

@[simp] theorem State.leaveCapture_phase (s : State) :
    s.leaveCapture.phase = .finish := rfl
@[simp] theorem State.leaveCapture_t (s : State) :
    s.leaveCapture.t = s.t := rfl
@[simp] theorem State.leaveCapture_n (s : State) :
    s.leaveCapture.n = s.n := rfl
@[simp] theorem State.leaveCapture_tRef (s : State) :
    s.leaveCapture.tRef = s.tRef := rfl
@[simp] theorem State.leaveCapture_prev (s : State) :
    s.leaveCapture.prev = s.prev := rfl
@[simp] theorem State.leaveCapture_var (s : State) :
    s.leaveCapture.var = s.var := rfl
@[simp] theorem State.leaveCapture_b (s : State) :
    s.leaveCapture.b = s.b := rfl
@[simp] theorem State.leaveCapture_lineOe (s : State) :
    s.leaveCapture.lineOe = s.lineOe := rfl
@[simp] theorem State.leaveCapture_lineOut (s : State) :
    s.leaveCapture.lineOut = s.lineOut := rfl
@[simp] theorem State.leaveCapture_crit (s : State) :
    s.leaveCapture.crit = false := rfl
@[simp] theorem State.leaveCapture_done (s : State) :
    s.leaveCapture.done = s.done := rfl
@[simp] theorem State.leaveCapture_resOk (s : State) :
    s.leaveCapture.resOk = s.resOk := rfl
@[simp] theorem State.leaveCapture_resKind (s : State) :
    s.leaveCapture.resKind = s.resKind := rfl
@[simp] theorem State.leaveCapture_resTemp (s : State) :
    s.leaveCapture.resTemp = s.resTemp := rfl
@[simp] theorem State.leaveCapture_resHum (s : State) :
    s.leaveCapture.resHum = s.resHum := rfl
@[simp] theorem State.leaveCapture_inp (s : State) :
    s.leaveCapture.inp = s.inp := rfl
@[simp] theorem State.leaveCapture_pending (s : State) :
    s.leaveCapture.pending = s.pending := rfl
@[simp] theorem State.leaveCapture_tick (s : State) :
    s.leaveCapture.tick = s.tick := rfl
@[simp] theorem State.leaveCapture_events (s : State) :
    s.leaveCapture.events = s.events ++ [⟨s.tick, .crit false⟩] := rfl

/-! ### advance -/

@[simp] theorem State.advance_phase (s : State) :
    s.advance.phase = s.phase := rfl
@[simp] theorem State.advance_t (s : State) :
    s.advance.t = s.t := rfl
@[simp] theorem State.advance_n (s : State) :
    s.advance.n = s.n := rfl
@[simp] theorem State.advance_tRef (s : State) :
    s.advance.tRef = s.tRef := rfl
@[simp] theorem State.advance_prev (s : State) :
    s.advance.prev = s.prev := rfl
@[simp] theorem State.advance_var (s : State) :
    s.advance.var = s.var := rfl
@[simp] theorem State.advance_b (s : State) :
    s.advance.b = s.b := rfl
@[simp] theorem State.advance_lineOe (s : State) :
    s.advance.lineOe = s.lineOe := rfl
@[simp] theorem State.advance_lineOut (s : State) :
    s.advance.lineOut = s.lineOut := rfl
@[simp] theorem State.advance_crit (s : State) :
    s.advance.crit = s.crit := rfl
@[simp] theorem State.advance_done (s : State) :
    s.advance.done = s.done := rfl
@[simp] theorem State.advance_resOk (s : State) :
    s.advance.resOk = s.resOk := rfl
@[simp] theorem State.advance_resKind (s : State) :
    s.advance.resKind = s.resKind := rfl
@[simp] theorem State.advance_resTemp (s : State) :
    s.advance.resTemp = s.resTemp := rfl
@[simp] theorem State.advance_resHum (s : State) :
    s.advance.resHum = s.resHum := rfl
@[simp] theorem State.advance_inp (s : State) :
    s.advance.inp = s.nextSample := rfl
@[simp] theorem State.advance_pending (s : State) :
    s.advance.pending = s.pending.tail := rfl
@[simp] theorem State.advance_tick (s : State) :
    s.advance.tick = s.tick + 1 := rfl
@[simp] theorem State.advance_events (s : State) :
    s.advance.events = s.events := rfl

/-! ### resetStep (the registers that take free values have no lemma: nothing is known of them) -/

@[simp] theorem State.resetStep_phase (s : State) :
    s.resetStep.phase = .idle := rfl
@[simp] theorem State.resetStep_lineOe (s : State) :
    s.resetStep.lineOe = false := rfl
@[simp] theorem State.resetStep_lineOut (s : State) :
    s.resetStep.lineOut = true := rfl
@[simp] theorem State.resetStep_crit (s : State) :
    s.resetStep.crit = false := rfl
@[simp] theorem State.resetStep_done (s : State) :
    s.resetStep.done = false := rfl
@[simp] theorem State.resetStep_inp (s : State) :
    s.resetStep.inp = s.inp := rfl
@[simp] theorem State.resetStep_pending (s : State) :
    s.resetStep.pending = s.pending := rfl
@[simp] theorem State.resetStep_tick (s : State) :
    s.resetStep.tick = s.tick := rfl
@[simp] theorem State.resetStep_events (s : State) :
    s.resetStep.events = s.events ++
      [⟨s.tick, .lineOe false⟩, ⟨s.tick, .lineOut true⟩, ⟨s.tick, .crit false⟩, ⟨s.tick, .done false⟩] := rfl

end Sys2Proof.Machine
end

