-- ==== Sys2Proof/Laws/Ops.lean ====
section
/-!
SUPPORT. One lemma for each shared operation that says everything it can do: the slot array, the end of a read, the
recording of a transition, the tests.
-/
namespace Sys2Proof.Machine

/-! ### Slots -/

/-- A slot exists exactly when its index is at most 42. -/
theorem State.slot_eq_none_iff (s : State) (i : Nat) : s.slot i = none ↔ 43 ≤ i := by
  simp [State.slot]

theorem State.slot_of_lt (s : State) (i : Nat) (h : i < 43) : s.slot i = some s.t[i] := by
  simp [State.slot, h]

theorem State.slot_isSome_of_lt (s : State) (i : Nat) (h : i < 43) : ∃ v, s.slot i = some v :=
  ⟨s.t[i], s.slot_of_lt i h⟩

/-- All a slot write can do: it exists for an index up to 42, and changes that slot and no other register. -/
theorem State.storeSlot_eq_some_iff (s s' : State) (i : Nat) (v : Word) :
    s.storeSlot i v = some s' ↔ ∃ h : i < 43, s' = { s with t := s.t.set i v } := by
  unfold State.storeSlot
  split <;> simp_all [eq_comm]

theorem State.storeSlot_eq_none_iff (s : State) (i : Nat) (v : Word) :
    s.storeSlot i v = none ↔ 43 ≤ i := by
  unfold State.storeSlot
  split <;> simp_all

/-- Read after write, and every other slot as before. -/
theorem State.slot_of_storeSlot {s s' : State} {i : Nat} {v : Word} (h : s.storeSlot i v = some s') (j : Nat) :
    s'.slot j = if j = i then some v else s.slot j := by
  obtain ⟨hi, rfl⟩ := (s.storeSlot_eq_some_iff s' i v).1 h
  by_cases hj : j = i
  · subst hj; simp [State.slot, hi]
  · simp [State.slot, hj, Vector.getElem?_set_ne _ (Ne.symm hj)]

/-- The baseline write: slot 0, and every other slot as before. -/
theorem State.slot_storeBaseline (s : State) (v : Word) (j : Nat) :
    (s.storeBaseline v).slot j = if j = 0 then some v else s.slot j := by
  by_cases hj : j = 0
  · subst hj; simp [State.slot, State.storeBaseline]
  · simp [State.slot, State.storeBaseline, hj, Vector.getElem?_set_ne _ (Ne.symm hj)]

/-- Slots depend on the array alone. -/
theorem State.slot_congr {s s' : State} (h : s'.t = s.t) (i : Nat) : s'.slot i = s.slot i := by
  simp [State.slot, h]

/-! ### Tests -/

theorem State.busWindowClosed_iff (s : State) :
    s.busWindowClosed = true ↔ 250 < (elapsed s.inp.now s.tRef).toNat := by
  unfold State.busWindowClosed Config.tBusy State.now
  exact decide_eq_true_iff

theorem State.wakeWindowRun_iff (s : State) :
    s.wakeWindowRun = true ↔ 2000 ≤ (elapsed s.inp.now s.tRef).toNat := by
  unfold State.wakeWindowRun Config.tWake State.now
  exact decide_eq_true_iff

theorem State.gapWindowClosed_iff (s : State) (last : Word) :
    s.gapWindowClosed last = true ↔ 20000 < (elapsed s.inp.now last).toNat := by
  unfold State.gapWindowClosed Config.tGap State.now
  exact decide_eq_true_iff

theorem State.fallingEdge_iff (s : State) :
    s.fallingEdge = true ↔ s.prev = true ∧ s.inp.lineIn = false := by
  simp [State.fallingEdge, State.lineRead]

theorem bitDecide_iff (later earlier : Word) :
    bitDecide later earlier = true ↔ 100 ≤ (elapsed later earlier).toNat := by
  unfold bitDecide Config.tBit
  exact decide_eq_true_iff

theorem checksumOk_iff (f : Frame) : checksumOk f = true ↔ f.b5 = f.b1 + f.b2 + f.b3 + f.b4 := by
  unfold checksumOk
  exact decide_eq_true_iff

/-! ### Recording a transition, and the rest of a capture step -/

/-- All the recording of a transition can do. -/
theorem State.recordTransition_cases (s : State) :
    (s.fallingEdge = false ∧ s.recordTransition = some s) ∨
    (s.fallingEdge = true ∧ 42 ≤ s.n.toNat ∧ s.recordTransition = none) ∨
    (s.fallingEdge = true ∧ ∃ h : s.n.toNat + 1 < 43,
      s.recordTransition = some { s with t := s.t.set (s.n.toNat + 1) s.inp.now, n := s.n + 1 }) := by
  unfold State.recordTransition
  cases hf : s.fallingEdge
  · exact .inl ⟨rfl, by simp⟩
  · by_cases h : s.n.toNat + 1 < 43
    · exact .inr (.inr ⟨rfl, h, by simp [State.storeSlot, h, State.setCount, State.now]⟩)
    · exact .inr (.inl ⟨rfl, by omega, by simp [State.storeSlot, h]⟩)

/-- The count after a recorded transition does not wrap. -/
theorem count_succ_toNat (n : Count) (h : n.toNat + 1 < 43) : (n + 1).toNat = n.toNat + 1 := by
  rw [BitVec.toNat_add]; simp; omega

/-- All the end of a capture step can do: `prev` takes the level, and the loop is left when 42 are recorded. -/
theorem State.afterSample_cases (s : State) :
    (s.n.toNat = 42 ∧ s.afterSample = (s.setPrev s.inp.lineIn).leaveCapture) ∨
    (s.n.toNat ≠ 42 ∧ s.afterSample = s.setPrev s.inp.lineIn) := by
  by_cases h : s.n.toNat = 42
  · exact .inl ⟨h, by simp [State.afterSample, State.allRecorded, h, Config.nEdges, State.lineRead]⟩
  · exact .inr ⟨h, by simp [State.afterSample, State.allRecorded, h, Config.nEdges, State.lineRead]⟩

/-! ### Consuming a frame -/

/-- All the consumption of a frame can do: a Success with the converted values, or ChecksumMismatch. -/
theorem State.consumeFrame_cases (s : State) (f : Frame) :
    (checksumOk f = true ∧
      s.consumeFrame f = (s.setFrame f).returnSuccess (convert s.var f).1 (convert s.var f).2) ∨
    (checksumOk f = false ∧ s.consumeFrame f = (s.setFrame f).raise .checksumMismatch) := by
  cases h : checksumOk f <;> simp [State.consumeFrame, h]

/-! ### Samples -/

theorem State.nextSample_cons (s : State) (p : Inputs) (l : List Inputs) (h : s.pending = p :: l) :
    s.nextSample = p := by
  simp [State.nextSample, h]

theorem State.nextSample_nil (s : State) (h : s.pending = []) : s.nextSample = s.drawSample := by
  simp [State.nextSample, h]

/-- The sample after a reset step: as for the state in IDLE, since `busy` is 0 then. -/
theorem State.resetStep_nextSample (s : State) :
    s.resetStep.nextSample = ({ s with phase := .idle } : State).nextSample := by
  unfold State.nextSample State.resetStep State.emit State.drawSample State.busy
  rfl

@[simp] theorem State.busy_iff (s : State) : s.busy = true ↔ s.phase ≠ .idle := by
  simp [State.busy]

end Sys2Proof.Machine
end

