-- ==== Sys2Proof/Laws/PerInstr.lean ====
section
/-!
SUPPORT. The statements made of every instruction as syntax, one lemma per constructor. Family `EncodingLength`: an
instruction is encoded in one operation byte, a frame in five bytes (R72).
-/
namespace Sys2Proof.Laws

/-- One byte for a command or a micro-operation, five for a frame (R72). -/
def EncodingLength.Statement (i : Instr) : Prop :=
  (encode i).length = match i with
    | .frame _ => 5
    | _ => 1

theorem EncodingLength.nop (v : Variant) : EncodingLength.Statement (.nop v) := rfl

theorem EncodingLength.read (v : Variant) : EncodingLength.Statement (.read v) := rfl

theorem EncodingLength.hsPoll : EncodingLength.Statement .hsPoll := rfl

theorem EncodingLength.wakeHold : EncodingLength.Statement .wakeHold := rfl

theorem EncodingLength.capRelease : EncodingLength.Statement .capRelease := rfl

theorem EncodingLength.capture : EncodingLength.Statement .capture := rfl

theorem EncodingLength.finish : EncodingLength.Statement .finish := rfl

theorem EncodingLength.frame (f : Frame) : EncodingLength.Statement (.frame f) := rfl

end Sys2Proof.Laws
end

