-- ==== Sys2Proof/Laws/Step.lean ====
section
/-!
SUPPORT. What each operation and the step can do, each said once: provers cite these inversion lemmas instead of unfolding
the meanings.
-/
namespace Sys2Proof.Machine

/-- All HS_POLL can do. -/
theorem execHsPoll_cases (s : State) :
    (s.busWindowClosed = true ∧ exec .hsPoll s = .next (s.raise .busBusy)) ∨
    (s.busWindowClosed = false ∧ s.inp.lineIn = true ∧
      exec .hsPoll s = .next (((s.lineWrite false).setTRef s.inp.now).setPhase .wakeHold)) ∨
    (s.busWindowClosed = false ∧ s.inp.lineIn = false ∧ exec .hsPoll s = .next s) := by
  cases hw : s.busWindowClosed <;> cases hl : s.inp.lineIn <;>
    simp [exec, execHsPoll, hw, hl, State.lineRead, State.now]

/-- All WAKE_HOLD can do. -/
theorem execWakeHold_cases (s : State) :
    (s.wakeWindowRun = true ∧
      exec .wakeHold s = .next (((s.setCrit true).lineWrite true).setPhase .capRelease)) ∨
    (s.wakeWindowRun = false ∧ exec .wakeHold s = .next s) := by
  cases hw : s.wakeWindowRun <;> simp [exec, execWakeHold, hw]

/-- All CAPTURE can do. -/
theorem execCapture_cases (s : State) :
    (43 ≤ s.n.toNat ∧ exec .capture s = .fault (.slotOutOfRange s.n.toNat)) ∨
    (∃ last, s.slot s.n.toNat = some last ∧
      ((s.gapWindowClosed last = true ∧ exec .capture s = .next s.leaveCapture) ∨
       (s.gapWindowClosed last = false ∧ s.fallingEdge = false ∧
         exec .capture s = .next s.afterSample) ∨
       (s.gapWindowClosed last = false ∧ s.fallingEdge = true ∧ s.n.toNat = 42 ∧
         exec .capture s = .fault (.slotOutOfRange 43)) ∨
       (s.gapWindowClosed last = false ∧ s.fallingEdge = true ∧ ∃ h : s.n.toNat + 1 < 43,
         exec .capture s = .next
           ({ s with t := s.t.set (s.n.toNat + 1) s.inp.now, n := s.n + 1 } : State).afterSample))) := by
  by_cases hn : s.n.toNat < 43
  · obtain ⟨last, hl⟩ := s.slot_isSome_of_lt _ hn
    refine .inr ⟨last, hl, ?_⟩
    cases hg : s.gapWindowClosed last
    · obtain ⟨hf, hr⟩ | ⟨hf, h42, hr⟩ | ⟨hf, h, hr⟩ := s.recordTransition_cases
      · exact .inr (.inl ⟨rfl, hf, by simp [exec, execCapture, hl, hg, hr]⟩)
      · have : s.n.toNat = 42 := by omega
        refine .inr (.inr (.inl ⟨rfl, hf, this, ?_⟩))
        simp only [this] at hl
        simp [exec, execCapture, hl, hg, hr, this]
      · exact .inr (.inr (.inr ⟨rfl, hf, h, by simp [exec, execCapture, hl, hg, hr]⟩))
    · exact .inl ⟨rfl, by simp [exec, execCapture, hl, hg]⟩
  · refine .inl ⟨by omega, ?_⟩
    have h : s.slot s.n.toNat = none := (s.slot_eq_none_iff _).2 (by omega)
    simp [exec, execCapture, h]

/-- All FINISH can do. -/
theorem execFinish_cases (s : State) :
    (s.n = 0 ∧ exec .finish s = .next (s.raise .syncTimeout)) ∨
    (1 ≤ s.n.toNat ∧ s.n.toNat ≤ 41 ∧ exec .finish s = .next (s.raise .dataTimeout)) ∨
    (42 ≤ s.n.toNat ∧ exec .finish s = .next (s.consumeFrame (capturedFrame s.t))) := by
  by_cases h0 : s.n = 0
  · exact .inl ⟨h0, by simp [exec, execFinish, h0]⟩
  · have h1 : s.n.toNat ≠ 0 := fun h => h0 (BitVec.eq_of_toNat_eq (by simpa using h))
    by_cases h : s.n.toNat < 42
    · exact .inr (.inl ⟨by omega, by omega, by
        rw [exec, execFinish, if_neg h0, if_pos (show s.n.toNat < Config.nEdges from h)]⟩)
    · exact .inr (.inr ⟨by omega, by
        rw [exec, execFinish, if_neg h0, if_neg (show ¬s.n.toNat < Config.nEdges from h)]⟩)

/-- All a step can do that gives a next state: the reset step, or the selected operation; then the next sample. -/
theorem step_eq_next_iff (s s' : State) :
    step s = .next s' ↔
      (s.inp.rst = true ∧ s' = s.resetStep.advance) ∨
      (s.inp.rst = false ∧ ∃ t, exec s.fetch s = .next t ∧ s' = t.advance) := by
  unfold step stepRegisters
  cases hr : s.inp.rst
  · cases exec s.fetch s <;> simp [eq_comm]
  · simp [eq_comm]

/-- Consuming a frame leaves the inputs alone. -/
theorem State.consumeFrame_keeps_inputs (s : State) (f : Frame) :
    (s.consumeFrame f).inp = s.inp ∧ (s.consumeFrame f).pending = s.pending ∧
      (s.consumeFrame f).tick = s.tick := by
  obtain ⟨_, e⟩ | ⟨_, e⟩ := s.consumeFrame_cases f <;> simp [e]

/-- The end of a capture step leaves the inputs alone. -/
theorem State.afterSample_keeps_inputs (s : State) :
    s.afterSample.inp = s.inp ∧ s.afterSample.pending = s.pending ∧ s.afterSample.tick = s.tick := by
  obtain ⟨_, e⟩ | ⟨_, e⟩ := s.afterSample_cases <;> simp [e]

/-- An operation leaves the inputs, the list of samples and the step counter alone. -/
theorem exec_keeps_inputs {i : Instr} {s s' : State} (h : exec i s = .next s') :
    s'.inp = s.inp ∧ s'.pending = s.pending ∧ s'.tick = s.tick := by
  cases i with
  | nop v => simp only [exec, execNop, Host.Outcome.next.injEq] at h; simp [← h]
  | read v => simp only [exec, execRead, Host.Outcome.next.injEq] at h; simp [← h]
  | hsPoll =>
    obtain ⟨_, e⟩ | ⟨_, _, e⟩ | ⟨_, _, e⟩ := execHsPoll_cases s <;> rw [e] at h <;>
      simp only [Host.Outcome.next.injEq] at h <;> simp [← h]
  | wakeHold =>
    obtain ⟨_, e⟩ | ⟨_, e⟩ := execWakeHold_cases s <;> rw [e] at h <;>
      simp only [Host.Outcome.next.injEq] at h <;> simp [← h]
  | capRelease => simp only [exec, execCapRelease, Host.Outcome.next.injEq] at h; simp [← h]
  | capture =>
    obtain ⟨_, e⟩ | ⟨_, _, ⟨_, e⟩ | ⟨_, _, e⟩ | ⟨_, _, _, e⟩ | ⟨_, _, _, e⟩⟩ := execCapture_cases s <;>
      rw [e] at h
    · exact absurd h (by simp)
    · simp only [Host.Outcome.next.injEq] at h; simp [← h]
    · simp only [Host.Outcome.next.injEq] at h; rw [← h]; exact s.afterSample_keeps_inputs
    · exact absurd h (by simp)
    · simp only [Host.Outcome.next.injEq] at h; rw [← h]; exact State.afterSample_keeps_inputs _
  | finish =>
    obtain ⟨_, e⟩ | ⟨_, _, e⟩ | ⟨_, e⟩ := execFinish_cases s <;> rw [e] at h <;>
      simp only [Host.Outcome.next.injEq] at h
    · simp [← h]
    · simp [← h]
    · rw [← h]; exact s.consumeFrame_keeps_inputs _
  | frame f =>
    simp only [exec, execFrame, Host.Outcome.next.injEq] at h
    rw [← h]; exact s.consumeFrame_keeps_inputs f

/-- The record after the transition of this step: slot n + 1 holds `now` and `n` is one more (R82). -/
def State.recorded (s : State) (h : s.n.toNat + 1 < 43) : State :=
  { s with t := s.t.set (s.n.toNat + 1) s.inp.now, n := s.n + 1 }

/-- The recorded transition can be read back, and every other slot is as before. -/
theorem State.slot_recorded (s : State) (h : s.n.toNat + 1 < 43) (i : Nat) :
    (s.recorded h).slot i = if i = s.n.toNat + 1 then some s.inp.now else s.slot i := by
  by_cases hi : i = s.n.toNat + 1
  · subst hi; simp [State.slot, State.recorded, h]
  · simp [State.slot, State.recorded, hi, Vector.getElem?_set_ne _ (Ne.symm hi)]

@[simp] theorem State.recorded_count (s : State) (h : s.n.toNat + 1 < 43) :
    (s.recorded h).n.toNat = s.n.toNat + 1 := count_succ_toNat s.n h

@[simp] theorem State.recorded_phase (s : State) (h : s.n.toNat + 1 < 43) :
    (s.recorded h).phase = s.phase := rfl

@[simp] theorem State.recorded_tRef (s : State) (h : s.n.toNat + 1 < 43) :
    (s.recorded h).tRef = s.tRef := rfl

@[simp] theorem State.recorded_prev (s : State) (h : s.n.toNat + 1 < 43) :
    (s.recorded h).prev = s.prev := rfl

@[simp] theorem State.recorded_var (s : State) (h : s.n.toNat + 1 < 43) :
    (s.recorded h).var = s.var := rfl

@[simp] theorem State.recorded_b (s : State) (h : s.n.toNat + 1 < 43) :
    (s.recorded h).b = s.b := rfl

@[simp] theorem State.recorded_lineOe (s : State) (h : s.n.toNat + 1 < 43) :
    (s.recorded h).lineOe = s.lineOe := rfl

@[simp] theorem State.recorded_lineOut (s : State) (h : s.n.toNat + 1 < 43) :
    (s.recorded h).lineOut = s.lineOut := rfl

@[simp] theorem State.recorded_crit (s : State) (h : s.n.toNat + 1 < 43) :
    (s.recorded h).crit = s.crit := rfl

@[simp] theorem State.recorded_done (s : State) (h : s.n.toNat + 1 < 43) :
    (s.recorded h).done = s.done := rfl

@[simp] theorem State.recorded_resOk (s : State) (h : s.n.toNat + 1 < 43) :
    (s.recorded h).resOk = s.resOk := rfl

@[simp] theorem State.recorded_resKind (s : State) (h : s.n.toNat + 1 < 43) :
    (s.recorded h).resKind = s.resKind := rfl

@[simp] theorem State.recorded_resTemp (s : State) (h : s.n.toNat + 1 < 43) :
    (s.recorded h).resTemp = s.resTemp := rfl

@[simp] theorem State.recorded_resHum (s : State) (h : s.n.toNat + 1 < 43) :
    (s.recorded h).resHum = s.resHum := rfl

@[simp] theorem State.recorded_inp (s : State) (h : s.n.toNat + 1 < 43) :
    (s.recorded h).inp = s.inp := rfl

@[simp] theorem State.recorded_pending (s : State) (h : s.n.toNat + 1 < 43) :
    (s.recorded h).pending = s.pending := rfl

@[simp] theorem State.recorded_tick (s : State) (h : s.n.toNat + 1 < 43) :
    (s.recorded h).tick = s.tick := rfl

@[simp] theorem State.recorded_events (s : State) (h : s.n.toNat + 1 < 43) :
    (s.recorded h).events = s.events := rfl

/-- Every way a step can give a next state, each case with its condition and its whole effect. The next sample is taken by
`advance` in each. -/
inductive StepCase (s : State) : State → Prop where
  | reset (hr : s.inp.rst = true) : StepCase s s.resetStep.advance
  | nop (hr : s.inp.rst = false) (hp : s.phase = .idle) (hs : s.inp.start = false) : StepCase s s.advance
  | read (hr : s.inp.rst = false) (hp : s.phase = .idle) (hs : s.inp.start = true) :
      StepCase s ((((((s.lineDir true).lineWrite true).setVar s.inp.variant).setTRef
        s.inp.now).setDone false).setPhase .hsPoll).advance
  | pollBusBusy (hr : s.inp.rst = false) (hp : s.phase = .hsPoll)
      (he : 250 < (elapsed s.inp.now s.tRef).toNat) : StepCase s (s.raise .busBusy).advance
  | pollHigh (hr : s.inp.rst = false) (hp : s.phase = .hsPoll)
      (he : (elapsed s.inp.now s.tRef).toNat ≤ 250) (hl : s.inp.lineIn = true) :
      StepCase s (((s.lineWrite false).setTRef s.inp.now).setPhase .wakeHold).advance
  | pollLow (hr : s.inp.rst = false) (hp : s.phase = .hsPoll)
      (he : (elapsed s.inp.now s.tRef).toNat ≤ 250) (hl : s.inp.lineIn = false) : StepCase s s.advance
  | wakeEnd (hr : s.inp.rst = false) (hp : s.phase = .wakeHold)
      (he : 2000 ≤ (elapsed s.inp.now s.tRef).toNat) :
      StepCase s (((s.setCrit true).lineWrite true).setPhase .capRelease).advance
  | wakeStay (hr : s.inp.rst = false) (hp : s.phase = .wakeHold)
      (he : (elapsed s.inp.now s.tRef).toNat < 2000) : StepCase s s.advance
  | release (hr : s.inp.rst = false) (hp : s.phase = .capRelease) :
      StepCase s (((((s.lineDir false).storeBaseline s.inp.now).setCount 0).setPrev
        true).setPhase .capture).advance
  | gapTimeout (hr : s.inp.rst = false) (hp : s.phase = .capture) (last : Word)
      (hl : s.slot s.n.toNat = some last) (he : 20000 < (elapsed s.inp.now last).toNat) :
      StepCase s s.leaveCapture.advance
  | noEdge (hr : s.inp.rst = false) (hp : s.phase = .capture) (last : Word)
      (hl : s.slot s.n.toNat = some last) (he : (elapsed s.inp.now last).toNat ≤ 20000)
      (hf : ¬(s.prev = true ∧ s.inp.lineIn = false)) (hn : s.n.toNat < 42) :
      StepCase s (s.setPrev s.inp.lineIn).advance
  /-- No run reaches this case: the count is at most 41 in CAPTURE (R84). -/
  | noEdgeAtFullCount (hr : s.inp.rst = false) (hp : s.phase = .capture) (last : Word)
      (hl : s.slot s.n.toNat = some last) (he : (elapsed s.inp.now last).toNat ≤ 20000)
      (hf : ¬(s.prev = true ∧ s.inp.lineIn = false)) (hn : s.n.toNat = 42) :
      StepCase s (s.setPrev s.inp.lineIn).leaveCapture.advance
  | edge (hr : s.inp.rst = false) (hp : s.phase = .capture) (last : Word)
      (hl : s.slot s.n.toNat = some last) (he : (elapsed s.inp.now last).toNat ≤ 20000)
      (hv : s.prev = true) (hi : s.inp.lineIn = false) (hn : s.n.toNat < 41) :
      StepCase s ((s.recorded (by omega)).setPrev false).advance
  | lastEdge (hr : s.inp.rst = false) (hp : s.phase = .capture) (last : Word)
      (hl : s.slot s.n.toNat = some last) (he : (elapsed s.inp.now last).toNat ≤ 20000)
      (hv : s.prev = true) (hi : s.inp.lineIn = false) (hn : s.n.toNat = 41) :
      StepCase s ((s.recorded (by omega)).setPrev false).leaveCapture.advance
  | syncTimeout (hr : s.inp.rst = false) (hp : s.phase = .finish) (hn : s.n = 0) :
      StepCase s (s.raise .syncTimeout).advance
  | dataTimeout (hr : s.inp.rst = false) (hp : s.phase = .finish) (h1 : 1 ≤ s.n.toNat)
      (h2 : s.n.toNat ≤ 41) : StepCase s (s.raise .dataTimeout).advance
  | success (hr : s.inp.rst = false) (hp : s.phase = .finish) (hn : 42 ≤ s.n.toNat)
      (hc : checksumOk (capturedFrame s.t) = true) :
      StepCase s ((s.setFrame (capturedFrame s.t)).returnSuccess
        (convert s.var (capturedFrame s.t)).1 (convert s.var (capturedFrame s.t)).2).advance
  | mismatch (hr : s.inp.rst = false) (hp : s.phase = .finish) (hn : 42 ≤ s.n.toNat)
      (hc : checksumOk (capturedFrame s.t) = false) :
      StepCase s ((s.setFrame (capturedFrame s.t)).raise .checksumMismatch).advance

/-- The operation a phase selects, with the phase known. -/
theorem fetch_of_phase (s : State) :
    (s.phase = .idle → s.inp.start = false → s.fetch = .nop s.inp.variant) ∧
    (s.phase = .idle → s.inp.start = true → s.fetch = .read s.inp.variant) ∧
    (s.phase = .hsPoll → s.fetch = .hsPoll) ∧ (s.phase = .wakeHold → s.fetch = .wakeHold) ∧
    (s.phase = .capRelease → s.fetch = .capRelease) ∧ (s.phase = .capture → s.fetch = .capture) ∧
    (s.phase = .finish → s.fetch = .finish) := by
  rw [fetch_cases]
  refine ⟨fun h hs => ?_, fun h hs => ?_, fun h => ?_, fun h => ?_, fun h => ?_, fun h => ?_, fun h => ?_⟩
  · simp [h, hs]
  · simp [h, hs]
  all_goals simp [h]

/-- A capture step that gives a next state, case by case. -/
theorem captureStep_cases {s t : State} (hr : s.inp.rst = false) (hp : s.phase = .capture)
    (h : exec .capture s = .next t) : StepCase s t.advance := by
  obtain ⟨_, e⟩ | ⟨last, hl, ⟨hg, e⟩ | ⟨hg, hf, e⟩ | ⟨_, _, _, e⟩ | ⟨hg, hf, hb, e⟩⟩ := execCapture_cases s <;>
    rw [e] at h
  · exact absurd h (by simp)
  · obtain rfl : s.leaveCapture = t := by simpa using h
    exact .gapTimeout hr hp last hl ((s.gapWindowClosed_iff last).1 hg)
  · obtain rfl : s.afterSample = t := by simpa using h
    have he := not_lt.1 (mt (s.gapWindowClosed_iff last).2 (by simp [hg]))
    have hf' := mt s.fallingEdge_iff.2 (by simp [hf])
    have hn : s.n.toNat < 43 := by
      by_contra hh
      rw [(s.slot_eq_none_iff _).2 (by omega)] at hl
      cases hl
    obtain ⟨h42, e⟩ | ⟨h42, e⟩ := s.afterSample_cases <;> rw [e]
    · exact .noEdgeAtFullCount hr hp last hl he hf' h42
    · exact .noEdge hr hp last hl he hf' (by omega)
  · exact absurd h (by simp)
  · obtain rfl : (s.recorded hb).afterSample = t := by simpa [State.recorded] using h
    have he := not_lt.1 (mt (s.gapWindowClosed_iff last).2 (by simp [hg]))
    obtain ⟨hv, hi⟩ := s.fallingEdge_iff.1 hf
    obtain ⟨h42, e⟩ | ⟨h42, e⟩ := (s.recorded hb).afterSample_cases <;> rw [e] <;>
      rw [s.recorded_count hb] at h42 <;> rw [show (s.recorded hb).inp.lineIn = false from hi]
    · exact .lastEdge hr hp last hl he hv hi (by omega)
    · exact .edge hr hp last hl he hv hi (by omega)

/-- A step that gives a next state is one of the cases. -/
theorem step_cases {s s' : State} (h : step s = .next s') : StepCase s s' := by
  obtain ⟨hr, rfl⟩ | ⟨hr, t, ht, rfl⟩ := (step_eq_next_iff s s').1 h
  · exact .reset hr
  obtain ⟨f1, f2, f3, f4, f5, f6, f7⟩ := fetch_of_phase s
  cases hp : s.phase with
  | idle =>
    cases hs : s.inp.start
    · rw [f1 hp hs] at ht
      obtain rfl : s = t := by simpa [exec, execNop] using ht
      exact .nop hr hp hs
    · rw [f2 hp hs] at ht
      simp only [exec, execRead, Host.Outcome.next.injEq] at ht
      rw [← ht]
      exact .read hr hp hs
  | hsPoll =>
    rw [f3 hp] at ht
    obtain ⟨hw, e⟩ | ⟨hw, hl, e⟩ | ⟨hw, hl, e⟩ := execHsPoll_cases s <;> rw [e] at ht <;>
      simp only [Host.Outcome.next.injEq] at ht <;> rw [← ht]
    · exact .pollBusBusy hr hp (s.busWindowClosed_iff.1 hw)
    · exact .pollHigh hr hp (not_lt.1 (mt s.busWindowClosed_iff.2 (by simp [hw]))) hl
    · exact .pollLow hr hp (not_lt.1 (mt s.busWindowClosed_iff.2 (by simp [hw]))) hl
  | wakeHold =>
    rw [f4 hp] at ht
    obtain ⟨hw, e⟩ | ⟨hw, e⟩ := execWakeHold_cases s <;> rw [e] at ht <;>
      simp only [Host.Outcome.next.injEq] at ht <;> rw [← ht]
    · exact .wakeEnd hr hp (s.wakeWindowRun_iff.1 hw)
    · exact .wakeStay hr hp (not_le.1 (mt s.wakeWindowRun_iff.2 (by simp [hw])))
  | capRelease =>
    rw [f5 hp] at ht
    simp only [exec, execCapRelease, Host.Outcome.next.injEq] at ht
    rw [← ht]
    exact .release hr hp
  | capture =>
    rw [f6 hp] at ht
    exact captureStep_cases hr hp ht
  | finish =>
    rw [f7 hp] at ht
    obtain ⟨h0, e⟩ | ⟨h1, h2, e⟩ | ⟨h1, e⟩ := execFinish_cases s <;> rw [e] at ht <;>
      simp only [Host.Outcome.next.injEq] at ht <;> rw [← ht]
    · exact .syncTimeout hr hp h0
    · exact .dataTimeout hr hp h1 h2
    · obtain ⟨hc, e⟩ | ⟨hc, e⟩ := s.consumeFrame_cases (capturedFrame s.t) <;> rw [e]
      · exact .success hr hp h1 hc
      · exact .mismatch hr hp h1 hc

end Sys2Proof.Machine
end

