-- ==== Sys2Proof/Tests/Slice0.lean ====
section
/-!
SUPPORT. Tests of the model, expected values from `spec/30_encoding.md` and `spec/95_test_vectors.md` (the vector is named),
and for each statement with hypotheses a witness that meets them all.
-/
namespace Sys2Proof.Tests
open Sys2Proof.Machine

/-- A step outcome that is a next state with property `p`. -/
def nextHas (o : Host.Outcome State Fault Refusal) (p : State → Bool) : Bool :=
  match o with
  | .next s => p s
  | _ => false

/-- A state in phase `p` with inputs `now` and `line_in`; `t_ref` is given, everything else as after reset. -/
def at_ (p : Phase) (tRef now : Word) (line : Bool) : State :=
  { State.reset with phase := p, tRef := tRef, inp := ⟨false, false, .int8, now, line⟩ }

/-- A state in CAPTURE with count `n`, every slot holding `last`, and `prev`, `now`, `line_in` as given. -/
def cap (n : Count) (last : Word) (prev : Bool) (now : Word) (line : Bool) : State :=
  { at_ .capture 0 now line with n := n, t := Vector.replicate 43 last, prev := prev, crit := true }

/-- A state in FINISH that holds a complete record of the frame `f`, for the variant `v`. -/
def fin (f : Frame) (v : Variant) : State :=
  { at_ .finish 0 0 false with n := 42, t := frameRecord f, var := v }

/-- A list of samples after a READ at time 0: one sample each second, the line low. -/
def seconds (k : Nat) : List Inputs :=
  (List.range k).map fun i => ⟨false, false, .int8, BitVec.ofNat 32 (1000000 * (i + 1)), false⟩

/-- An idle state that accepts READ 0 at time 0, with `l` as the samples after it. -/
def reading (l : List Inputs) : State :=
  { State.reset with inp := ⟨false, true, .int8, 0, false⟩, pending := l }

/-! ### Encodings: words written out from R70, R71 (bits 7..5 zero, bits 4..3 the command, bits 2..0 the phase code) -/

theorem test_decode_nop_int8 : decode [0b00000000] = .ok (.nop .int8) := by rfl

theorem test_decode_nop_fix256 : decode [0b00010000] = .ok (.nop .fix256) := by rfl

theorem test_decode_read_int8 : decode [0b00001000] = .ok (.read .int8) := by rfl

theorem test_decode_read_fix256 : decode [0b00011000] = .ok (.read .fix256) := by rfl

theorem test_decode_hsPoll : decode [0b00000001] = .ok .hsPoll := by rfl

theorem test_decode_wakeHold : decode [0b00000010] = .ok .wakeHold := by rfl

theorem test_decode_capRelease : decode [0b00000011] = .ok .capRelease := by rfl

theorem test_decode_capture : decode [0b00000100] = .ok .capture := by rfl

theorem test_decode_finish : decode [0b00000101] = .ok .finish := by rfl

/-- R63's pattern string with the bytes of S6. -/
theorem test_decode_frame : decodeTableWord 40 0b0011001000000000000110110000000001001101 =
    some (.frame ⟨0x32, 0x00, 0x1B, 0x00, 0x4D⟩) := by decide

/-- R72: in phases other than IDLE the command word is not examined. -/
theorem test_decode_ignores_command_when_busy : decode [0b00011100] = .ok .capture := by rfl

/-! ### WellFormed: one ill-formed term for each check, refused by the check and by the decoder -/

theorem test_phase_code_110_refused :
    phaseCodeLegal 0b110 = false ∧ wellFormedBytes [0b110] = false ∧ decode [0b110] = .error .reservedPhase :=
  ⟨by decide, by decide, by rfl⟩

theorem test_phase_code_111_refused :
    wellFormedBytes [0b111] = false ∧ decode [0b111] = .error .reservedPhase := ⟨by decide, by rfl⟩

theorem test_upper_bits_refused : upperBitsZero 0b00100000 = false ∧
    wellFormedBytes [0b00100000] = false ∧ decode [0b00100000] = .error .reservedBits :=
  ⟨by decide, by decide, by rfl⟩

theorem test_lengths_refused : wellFormedBytes [] = false ∧ wellFormedBytes [0, 0] = false ∧
    decode [] = .error .badLength ∧ decode [0, 0] = .error .badLength :=
  ⟨by decide, by decide, by rfl, by rfl⟩

/-- R69: every operand of every instruction is legal, both variants among them. -/
theorem test_every_operand_wellFormed : (Instr.read .fix256).wellFormed = true ∧
    (Instr.frame ⟨255, 255, 255, 255, 255⟩).wellFormed = true := by decide

/-! ### Codes: R68, R69 -/

theorem test_error_codes : ErrorKind.code .busBusy = 0 ∧ ErrorKind.code .syncTimeout = 1 ∧
    ErrorKind.code .dataTimeout = 2 ∧ ErrorKind.code .checksumMismatch = 3 := by decide

theorem test_variant_codes : Variant.code .int8 = 0 ∧ Variant.code .fix256 = 1 := by decide

/-! ### Commands -/

/-- V-C4: READ 1 after a Success. -/
theorem test_read_after_success : nextHas
    (step { State.reset with
      done := true, resOk := true, resTemp := 6912, resHum := 12800,
      inp := ⟨false, true, .fix256, 500000, false⟩ })
    (fun s => s.phase == .hsPoll && s.lineOe && s.lineOut && s.var == .fix256 && s.tRef == 500000 &&
      !s.done && s.resTemp == 6912) = true := by decide

/-- V-C5: `start = 1` while busy is a plain HS_POLL step. -/
theorem test_start_ignored_while_busy : nextHas
    (step { at_ .hsPoll 1000 1010 true with inp := ⟨false, true, .fix256, 1010, true⟩ })
    (fun s => s.phase == .wakeHold && !s.lineOut && s.tRef == 1010 && s.var == .int8) = true := by decide

/-- V-C2: NOP with `variant = 1`. -/
theorem test_nop_keeps_state : nextHas
    (step { State.reset with inp := ⟨false, false, .fix256, 77, true⟩ })
    (fun s => s.phase == .idle && s.var == .int8 && !s.done && !s.lineOe && !s.busy) = true := by decide

/-! ### Handshake -/

/-- V-H4. -/
theorem test_hsPoll_250_inside : nextHas (step (at_ .hsPoll 1000 1250 true))
    (fun s => s.phase == .wakeHold && !s.lineOut && s.tRef == 1250) = true := by decide

/-- V-H5: window first. -/
theorem test_hsPoll_251_busBusy : nextHas (step { at_ .hsPoll 1000 1251 true with lineOe := true })
    (fun s => s.phase == .idle && s.done && !s.resOk && s.resKind == .busBusy && s.lineOe && s.lineOut &&
      !s.crit) = true := by decide

/-- V-W2. -/
theorem test_wakeHold_1999_holds : nextHas (step (at_ .wakeHold 1250 3249 true))
    (fun s => s.phase == .wakeHold && !s.crit) = true := by decide

/-- V-W4. -/
theorem test_wakeHold_2000_ends : nextHas (step { at_ .wakeHold 1250 3250 false with lineOut := false })
    (fun s => s.phase == .capRelease && s.crit && s.lineOut) = true := by decide

/-! ### Capture -/

/-- V-K1. -/
theorem test_capRelease_baseline : nextHas
    (step { at_ .capRelease 0 3251 false with lineOe := true, crit := true, n := 9 })
    (fun s => s.phase == .capture && !s.lineOe && s.slot 0 == some 3251 && s.n == 0 && s.prev && s.crit) =
    true := by decide

/-- V-K9: the edge at the sample after the window is not recorded. -/
theorem test_capture_20001_exits : nextHas (step (cap 5 50000 true 70001 false))
    (fun s => s.phase == .finish && !s.crit && s.n == 5 && s.prev && s.slot 6 == some 50000) = true := by decide

/-- V-K13: the counter wraps between two transitions. -/
theorem test_capture_across_wrap : nextHas (step (cap 3 0xFFFFFF00 true 0x10 false))
    (fun s => s.phase == .capture && s.n == 4 && s.slot 4 == some 0x10 && !s.prev) = true := by decide

/-! ### Classification and decoding -/

/-- V-CL1. -/
theorem test_finish_syncTimeout : nextHas (step { at_ .finish 0 0 false with n := 0 })
    (fun s => s.phase == .idle && s.done && !s.resOk && s.resKind == .syncTimeout) = true := by decide

/-- V-CL3. -/
theorem test_finish_dataTimeout : nextHas (step { at_ .finish 0 0 false with n := 41 })
    (fun s => s.phase == .idle && s.done && !s.resOk && s.resKind == .dataTimeout) = true := by decide

/-- V-BD1, V-BD2, V-BD5, V-BD6. -/
theorem test_bitDecide_threshold : bitDecide 5100 5000 = true ∧ bitDecide 5099 5000 = false ∧
    bitDecide 0x24 0xFFFFFFC0 = true ∧ bitDecide 0x23 0xFFFFFFC0 = false := by decide

/-- V-P1, V-P4: the first bit on the wire is bit 7. -/
theorem test_pack_bytes :
    pack (fun j => [false, false, true, true, false, false, true, false].getD j.val false) 0 = 0x32 ∧
    pack (fun j => [true, false, false, false, true, true, false, false].getD (j.val - 8) false) 1 = 0x8C := by
  decide

/-- V-S2, V-S4, V-S5, V-S7. -/
theorem test_checksum : checksumOk ⟨0x32, 0, 0x1B, 0, 0x4C⟩ = false ∧
    checksumOk ⟨0xFF, 0xFF, 0xFF, 0xFF, 0xFC⟩ = true ∧ checksumOk ⟨0xFF, 0xFF, 0xFF, 0xFF, 0xFF⟩ = false ∧
    checksumOk ⟨0x80, 0x80, 0, 0, 0⟩ = true := by decide

/-- V-V2, V-V5, V-V7: (t, h). -/
theorem test_convert : convert .fix256 ⟨0x02, 0x8C, 0x01, 0x10, 0x9F⟩ = (0x0110, 0x028C) ∧
    convert .int8 ⟨0x32, 0x05, 0x1B, 0x07, 0x59⟩ = (0x1B00, 0x3200) ∧
    convert .fix256 ⟨0, 0, 0x80, 0, 0x80⟩ = (0x8000, 0x0000) := by decide

/-- S7 through FINISH, from a record of the frame. -/
theorem test_finish_success_fix256 : nextHas (step (fin ⟨0x02, 0x8C, 0x01, 0x10, 0x9F⟩ .fix256))
    (fun s => s.phase == .idle && s.done && s.resOk && s.resHum == 652 && s.resTemp == 272) = true := by decide

/-- S6's payload with the checksum of V-S2, as a FRAME. -/
theorem test_frame_mismatch : nextHas (exec (.frame ⟨0x32, 0, 0x1B, 0, 0x4C⟩) State.reset)
    (fun s => s.phase == .idle && s.done && !s.resOk && s.resKind == .checksumMismatch && s.b.b5 == 0x4C) =
    true := by decide

/-! ### Reset -/

/-- V-R2: a read in CAPTURE is abandoned. -/
theorem test_reset_during_capture : nextHas
    (step { cap 7 9000 true 9100 false with inp := ⟨true, true, .fix256, 9100, false⟩ })
    (fun s => s.phase == .idle && !s.lineOe && s.lineOut && !s.crit && !s.done) = true := by decide

/-- A word placed after reset runs next. -/
theorem test_placed_frame_runs : nextHas (step (State.reset.withFetchWord 40 0x32001B004D))
    (fun s => s.resOk && s.resHum == 12800 && s.resTemp == 6912) = true := by decide

/-- The output ports after BusBusy, V-H5 (R39, R110). -/
theorem test_outputs_after_busBusy : nextHas
    (step { State.reset.present ⟨false, false, .int8, 1251, true⟩ [] with phase := .hsPoll, tRef := 1000, lineOe := true })
    (fun s => s.outputs.lineOe && s.outputs.lineOut && !s.outputs.crit && !s.outputs.busy && s.outputs.done &&
      !s.outputs.resOk && s.outputs.resKind == .busBusy) = true := by decide

/-! ### Witnesses: the hypotheses of each statement can be met, each clause at a boundary value -/

theorem witness_decodeOfEncode : (Instr.read .fix256).wellFormed = true := by decide

theorem witness_encodeOfDecode : decode [0b00011000] = .ok (.read .fix256) ∧
    (∀ b : Byte, [(0b00011000 : Byte)] = [b] → b.extractLsb' 0 3 ≠ 0 → b.extractLsb' 3 2 = 0) :=
  ⟨by rfl, by intro b h; cases h; decide⟩

theorem witness_elapsed_across_wrap : 100 < 2 ^ 32 ∧
    elapsed (BitVec.ofNat 32 (0xFFFFFFC0 + 100)) (BitVec.ofNat 32 0xFFFFFFC0) = 100 := by decide

theorem witness_bit_clauses : 100 ≤ 100 ∧ 99 < 100 ∧ 99 < 2 ^ 32 := by decide

/-- Two records with the same 40 deltas and different baselines and trailing markers. -/
theorem witness_decoding_deltas : (fin ⟨1, 2, 3, 4, 10⟩ .int8).n = 42 ∧
    ∀ i : Fin 40, elapsed ((fin ⟨1, 2, 3, 4, 10⟩ .int8).t[i.val + 2]'(by omega))
      ((fin ⟨1, 2, 3, 4, 10⟩ .int8).t[i.val + 1]'(by omega)) =
      elapsed ((((frameRecord ⟨1, 2, 3, 4, 10⟩).set 0 77).set 42 88)[i.val + 2]'(by omega))
      ((((frameRecord ⟨1, 2, 3, 4, 10⟩).set 0 77).set 42 88)[i.val + 1]'(by omega)) := ⟨by decide, by decide⟩

theorem witness_hsPoll_inside :
    (elapsed (at_ .hsPoll 1000 1250 true).inp.now (at_ .hsPoll 1000 1250 true).tRef).toNat ≤ 250 ∧
    (at_ .hsPoll 1000 1250 true).inp.lineIn = true ∧
    (elapsed (at_ .hsPoll 1000 1250 false).inp.now (at_ .hsPoll 1000 1250 false).tRef).toNat ≤ 250 ∧
    (at_ .hsPoll 1000 1250 false).inp.lineIn = false := by decide

theorem witness_hsPoll_after :
    250 < (elapsed (at_ .hsPoll 1000 1251 true).inp.now (at_ .hsPoll 1000 1251 true).tRef).toNat := by decide

theorem witness_wakeHold_clauses :
    2000 ≤ (elapsed (at_ .wakeHold 1250 3250 false).inp.now (at_ .wakeHold 1250 3250 false).tRef).toNat ∧
    (elapsed (at_ .wakeHold 1250 3249 false).inp.now (at_ .wakeHold 1250 3249 false).tRef).toNat < 2000 := by
  decide

theorem witness_capture_timeout :
    (cap 41 50000 true 70001 false).slot (cap 41 50000 true 70001 false).n.toNat = some 50000 ∧
    (cap 41 50000 true 70001 false).n.toNat ≤ 41 ∧
    20000 < (elapsed (cap 41 50000 true 70001 false).inp.now 50000).toNat := by decide

theorem witness_capture_edge_last :
    (cap 41 50000 true 70000 false).n.toNat = 41 ∧
    (cap 41 50000 true 70000 false).slot (cap 41 50000 true 70000 false).n.toNat = some 50000 ∧
    (elapsed (cap 41 50000 true 70000 false).inp.now 50000).toNat ≤ 20000 ∧
    (cap 41 50000 true 70000 false).prev = true ∧ (cap 41 50000 true 70000 false).inp.lineIn = false := by decide

theorem witness_capture_edge_earlier :
    (cap 40 50000 true 70000 false).n.toNat < 41 ∧
    (cap 40 50000 true 70000 false).slot (cap 40 50000 true 70000 false).n.toNat = some 50000 ∧
    (elapsed (cap 40 50000 true 70000 false).inp.now 50000).toNat ≤ 20000 ∧
    (cap 40 50000 true 70000 false).prev = true ∧ (cap 40 50000 true 70000 false).inp.lineIn = false := by decide

theorem witness_capture_no_edge :
    (cap 41 50000 false 70000 true).n.toNat ≤ 41 ∧
    (cap 41 50000 false 70000 true).slot (cap 41 50000 false 70000 true).n.toNat = some 50000 ∧
    (elapsed (cap 41 50000 false 70000 true).inp.now 50000).toNat ≤ 20000 ∧
    ¬((cap 41 50000 false 70000 true).prev = true ∧ (cap 41 50000 false 70000 true).inp.lineIn = false) := by
  decide

/-- The full count, which no run reaches in CAPTURE, without an edge. -/
theorem witness_capture_no_edge_full :
    (cap 42 50000 false 70000 true).n.toNat = 42 ∧
    (cap 42 50000 false 70000 true).slot (cap 42 50000 false 70000 true).n.toNat = some 50000 ∧
    (elapsed (cap 42 50000 false 70000 true).inp.now 50000).toNat ≤ 20000 ∧
    ¬((cap 42 50000 false 70000 true).prev = true ∧ (cap 42 50000 false 70000 true).inp.lineIn = false) := by
  decide

theorem witness_capture_counts :
    (cap 5 50000 true 70000 false).slot (cap 5 50000 true 70000 false).n.toNat = some 50000 ∧
    ∃ s', exec .capture (cap 5 50000 true 70000 false) = .next s' := ⟨by decide, _, rfl⟩

theorem witness_capture_outside :
    43 ≤ (cap 43 50000 true 70000 false).n.toNat ∧
    (cap 42 50000 true 70000 false).n.toNat = 42 ∧
    (cap 42 50000 true 70000 false).slot 42 = some 50000 ∧
    (elapsed (cap 42 50000 true 70000 false).inp.now 50000).toNat ≤ 20000 ∧
    (cap 42 50000 true 70000 false).prev = true ∧ (cap 42 50000 true 70000 false).inp.lineIn = false := by decide

theorem witness_finish_none : (at_ .finish 0 0 false).n = 0 := by decide

theorem witness_finish_partial : 1 ≤ ({ at_ .finish 0 0 false with n := 1 } : State).n.toNat ∧
    ({ at_ .finish 0 0 false with n := 1 } : State).n.toNat ≤ 41 ∧
    1 ≤ ({ at_ .finish 0 0 false with n := 41 } : State).n.toNat ∧
    ({ at_ .finish 0 0 false with n := 41 } : State).n.toNat ≤ 41 := by decide

/-- A complete record, for both outcomes of the checksum and both variants. -/
theorem witness_finish_complete :
    42 ≤ (fin ⟨0x32, 0, 0x1B, 0, 0x4D⟩ .int8).n.toNat ∧
    (fin ⟨0x32, 0, 0x1B, 0, 0x4D⟩ .int8).var = .int8 ∧ (fin ⟨0x32, 0, 0x1B, 0, 0x4C⟩ .fix256).var = .fix256 ∧
    capturedFrame (fin ⟨0x32, 0, 0x1B, 0, 0x4D⟩ .int8).t = ⟨0x32, 0, 0x1B, 0, 0x4D⟩ ∧
    checksumOk ⟨0x32, 0, 0x1B, 0, 0x4D⟩ = true ∧
    capturedFrame (fin ⟨0x32, 0, 0x1B, 0, 0x4C⟩ .fix256).t = ⟨0x32, 0, 0x1B, 0, 0x4C⟩ ∧
    checksumOk ⟨0x32, 0, 0x1B, 0, 0x4C⟩ = false := by decide

theorem witness_step_decoded : decode [(at_ .hsPoll 1000 1250 true).fetchByte] = .ok .hsPoll ∧
    (at_ .hsPoll 1000 1250 true).inp.rst = false ∧
    ∃ s', exec .hsPoll (at_ .hsPoll 1000 1250 true) = .next s' := ⟨by rfl, by decide, _, rfl⟩

theorem witness_step_pending :
    (reading (seconds 1)).pending = ⟨false, false, .int8, 1000000, false⟩ :: [] := by decide

theorem witness_reset_step :
    ({ State.reset with inp := ⟨true, true, .fix256, 9100, false⟩ } : State).inp.rst = true := by decide

/-- A reset step in the middle of a read with a sample listed, for the clause on the next sample. -/
theorem witness_reset_step_listed :
    ({ at_ .capture 0 0 true with
        inp := ⟨true, false, .int8, 9100, true⟩
        pending := [⟨false, true, .fix256, 9200, false⟩] } : State).inp.rst = true := by decide

theorem witness_placed_words : decodeTableWord 2 1 = some (.read .int8) ∧
    decodeTableWord 40 0 = some (.frame ⟨0, 0, 0, 0, 0⟩) ∧
    ∃ s', exec (.read .int8) (State.reset.withFetchWord 2 1) = .next s' := ⟨by decide, by decide, _, rfl⟩

theorem witness_sequencerInv_reset : SequencerInv State.reset := by
  unfold SequencerInv; decide

/-- A capture state that meets the sequencer invariant. -/
theorem witness_sequencerInv_capture : SequencerInv (cap 41 50000 true 70001 false) := by
  unfold SequencerInv; decide

/-- A reset sample in a state that meets the sequencer invariant, for the table's first clause. -/
theorem witness_table_reset :
    SequencerInv ({ State.reset with inp := ⟨true, false, .int8, 0, false⟩ } : State) := by
  unfold SequencerInv; decide

theorem witness_command_ignored :
    (reading (seconds 1)).pending ≠ [] ∧
    ({ reading (seconds 1) with phase := .hsPoll } : State).phase ≠ .idle := by decide

theorem witness_line_ignored : (at_ .wakeHold 1250 3249 true).phase ≠ .hsPoll ∧
    (at_ .wakeHold 1250 3249 true).phase ≠ .capture := by decide

/-- The other disjunct: a reset step in CAPTURE, where the level would count otherwise. -/
theorem witness_line_ignored_reset :
    ({ at_ .capture 0 0 true with inp := ⟨true, false, .int8, 9100, true⟩ } : State).inp.rst = true ∧
    ({ at_ .capture 0 0 true with inp := ⟨true, false, .int8, 9100, true⟩ } : State).phase = .capture := by decide

/-- For the statements about a step that is no reset step: a READ, a CAP_RELEASE, a CAPTURE and a FINISH step. -/
theorem witness_steps : (∃ s', step (reading (seconds 1)) = .next s') ∧
    (∃ s', step (at_ .capRelease 0 3251 false) = .next s') ∧
    (∃ s', step (cap 5 50000 true 70000 false) = .next s') ∧
    (∃ s', step (fin ⟨1, 2, 3, 4, 10⟩ .int8) = .next s') ∧
    (reading (seconds 1)).inp.rst = false ∧ (reading (seconds 1)).inp.start = true :=
  ⟨⟨_, rfl⟩, ⟨_, rfl⟩, ⟨_, rfl⟩, ⟨_, rfl⟩, by decide, by decide⟩

/-- `done` falls at a READ after a result. -/
theorem witness_done_falls : ∃ s', step { reading (seconds 1) with done := true } = .next s' ∧
    s'.done = false := ⟨_, rfl, by rfl⟩

/-- A state whose slots are apart by 0 meets the gap invariant, in CAPTURE, and steps. -/
theorem witness_gapInv : GapInv (cap 5 50000 true 70000 false) ∧
    ∃ s', step (cap 5 50000 true 70000 false) = .next s' := by
  refine ⟨?_, _, rfl⟩
  intro _ i a b hi ha hb
  have hn : i < 5 := hi
  have h : ∀ j, j < 43 → (cap 5 50000 true 70000 false).slot j = some 50000 := by
    intro j hj
    simp [State.slot, cap, hj]
  rw [h i (by omega)] at ha
  rw [h (i + 1) (by omega)] at hb
  cases ha; cases hb; decide

theorem witness_replayInv : ReplayInv State.reset ∧ ∃ s', step State.reset = .next s' :=
  ⟨by unfold ReplayInv; decide, _, rfl⟩

/-- A state in HS_POLL after a READ whose step ends the read in BusBusy: it meets every invariant used for whole reads. -/
def polling : State :=
  { at_ .hsPoll 1000 1251 true with
    lineOe := true
    events := [⟨0, .lineOe true⟩, ⟨0, .lineOut true⟩, ⟨0, .done false⟩] }

theorem witness_traceInv : TraceInv polling ∧ polling.inp.rst = false ∧ polling.phase ≠ .idle ∧
    ∃ s', step polling = .next s' ∧ s'.phase = .idle :=
  ⟨⟨[], by decide⟩, by decide, by decide, _, rfl, by rfl⟩

theorem witness_read_ends : SequencerInv polling ∧ polling.inp.rst = false ∧ polling.phase ≠ .idle ∧
    ∃ s', step polling = .next s' ∧ s'.phase = .idle :=
  ⟨by unfold SequencerInv; decide, by decide, by decide, _, rfl, by rfl⟩

/-- Two states that differ in what the read has not written yet. -/
theorem witness_liveEq : LiveEq polling { polling with n := 7, prev := true, resHum := 5 } ∧
    ∃ s', step polling = .next s' := by
  refine ⟨⟨rfl, fun _ => rfl, fun _ => rfl, fun h => ?_, fun h => ?_⟩, _, rfl⟩
  · exact absurd h (by decide)
  · exact absurd h (by decide)

/-- Two idle states with different histories, and a READ that runs two steps. -/
theorem witness_read_history :
    (reading (seconds 2)).phase = .idle ∧
    ({ reading (seconds 2) with n := 7, done := true } : State).inp = (reading (seconds 2)).inp ∧
    (∀ p ∈ (reading (seconds 2)).pending, p.rst = false ∧ p.start = false) ∧
    1 ≤ (reading (seconds 2)).pending.length ∧
    ∃ s', Host.Core.run core (1 + 1) (reading (seconds 2)) = .next s' :=
  ⟨by decide, by decide, by decide, by decide, _, rfl⟩

/-- Seven samples a second apart last longer than R136's bound for that spacing. -/
theorem witness_read_in_time :
    (reading (seconds 7)).phase = .idle ∧ (reading (seconds 7)).inp.rst = false ∧
    (reading (seconds 7)).inp.start = true ∧
    SpacedBy 1000000 (reading (seconds 7)).inp (reading (seconds 7)).pending ∧
    readTimeBound 1000000 < totalTime (reading (seconds 7)).inp (reading (seconds 7)).pending := by
  refine ⟨by decide, by decide, by decide, ?_, by decide⟩
  simp only [reading, seconds, List.range_succ, List.range_zero, List.map, SpacedBy, ClockOk,
    List.nil_append, List.cons_append]
  decide

theorem witness_drawn_sample : State.reset.pending = [] ∧ ∃ s', step State.reset = .next s' :=
  ⟨by decide, _, rfl⟩

end Sys2Proof.Tests
end

section
/-!
The family `00_scope.md`: the time between two counter readings across a wrap (R14) and the bit decided from it (R61,
R93).
-/
namespace Sys2Proof.Machine

/-- `elapsed` recovers any time shorter than the counter's period, even if the counter wrapped in between (R14). -/
theorem elapsed_ofNat_add_toNat (earlier d : Nat) (hd : d < 2 ^ 32) :
    (elapsed (BitVec.ofNat 32 (earlier + d)) (BitVec.ofNat 32 earlier)).toNat = d := by
  have hsub : elapsed (BitVec.ofNat 32 (earlier + d)) (BitVec.ofNat 32 earlier) = BitVec.ofNat 32 d := by
    rw [elapsed, BitVec.ofNat_add, BitVec.add_comm, BitVec.add_sub_cancel]
  rw [hsub, BitVec.toNat_ofNat, Nat.mod_eq_of_lt hd]

/-- The bit decided from two readings a time `d` apart depends on `d` alone (R61). -/
theorem bitDecide_ofNat_add (earlier d : Nat) (hd : d < 2 ^ 32) :
    bitDecide (BitVec.ofNat 32 (earlier + d)) (BitVec.ofNat 32 earlier) = true ↔ 100 ≤ d := by
  rw [bitDecide_iff, elapsed_ofNat_add_toNat earlier d hd]

/-- Settles O8: the elapsed time of the two readings is `d` itself, so the threshold of R61 is one on `d`; which two
transitions a frame bit compares is its definition (R93). -/
theorem bitIsOneFromOneHundredMicroseconds : Obligations.BitIsOneFromOneHundredMicroseconds := by
  refine ⟨fun earlier d hd => ⟨fun hle => ?_, fun hlt => ?_⟩, fun _ _ => rfl⟩
  · exact (bitDecide_ofNat_add earlier d hd).mpr hle
  · exact Bool.eq_false_iff.mpr fun hone => absurd ((bitDecide_ofNat_add earlier d hd).mp hone) (by omega)

end Sys2Proof.Machine
end

section
/-!
The family `30_encoding.md`: the bits of a captured frame in arrival order (R63), the checksum (R66) and the FIX256 fields
(R65, R98).
-/
namespace Sys2Proof.Machine

/-! ### Packing bits, most significant first -/

/-- The number whose binary digits are those of `acc` followed by the bits `f` gives the elements of `l`: the fold that
`pack` runs. -/
def appendBits {α : Type} (f : α → Bool) (acc : Nat) (l : List α) : Nat :=
  l.foldl (fun acc a => 2 * acc + (f a).toNat) acc

theorem appendBits_cons {α : Type} (f : α → Bool) (acc : Nat) (a : α) (l : List α) :
    appendBits f acc (a :: l) = appendBits f (Nat.bit (f a) acc) l := by
  rw [Nat.bit_val]; rfl

/-- The digits of the accumulator move up by one place for each bit appended. -/
theorem appendBits_testBit_add {α : Type} (f : α → Bool) (l : List α) (acc p : Nat) :
    (appendBits f acc l).testBit (p + l.length) = acc.testBit p := by
  induction l generalizing acc p with
  | nil => rfl
  | cons a l ih =>
    have hp : p + (a :: l).length = (p + 1) + l.length := by simp only [List.length_cons]; omega
    rw [appendBits_cons, hp, ih, Nat.testBit_bit_succ]

/-- The first bit appended is the highest. -/
theorem appendBits_testBit {α : Type} (f : α → Bool) (l : List α) (acc i : Nat) (hi : i < l.length) :
    (appendBits f acc l).testBit (l.length - 1 - i) = f l[i] := by
  induction l generalizing acc i with
  | nil => exact absurd hi (Nat.not_lt_zero i)
  | cons a l ih =>
    rw [appendBits_cons]
    cases i with
    | zero =>
      have htop : (a :: l).length - 1 - 0 = 0 + l.length := by simp
      rw [htop, appendBits_testBit_add, Nat.testBit_bit_zero, List.getElem_cons_zero]
    | succ i =>
      have hlt : i < l.length := by simpa using hi
      have hpos : (a :: l).length - 1 - (i + 1) = l.length - 1 - i := by simp only [List.length_cons]; omega
      rw [hpos, ih _ i hlt, List.getElem_cons_succ]

theorem pack_eq_ofNat_appendBits (f : Fin 40 → Bool) (k : Fin 5) :
    pack f k =
      BitVec.ofNat 8 (appendBits (fun i : Fin 8 => f ⟨8 * k.val + i.val, by omega⟩) 0 (List.finRange 8)) := rfl

/-- Bit `7 - i` of a packed byte is frame bit `f[8k + i]` (R94). -/
theorem pack_getLsbD (f : Fin 40 → Bool) (k : Fin 5) (i : Fin 8) :
    (pack f k).getLsbD (7 - i.val) = f ⟨8 * k.val + i.val, by omega⟩ := by
  have hbit := appendBits_testBit (fun i : Fin 8 => f ⟨8 * k.val + i.val, by omega⟩) (List.finRange 8) 0 i.val
    (by simp)
  simp only [List.length_finRange, List.getElem_finRange] at hbit
  have hlt : 7 - i.val < 8 := by omega
  rw [pack_eq_ofNat_appendBits, BitVec.getLsbD_ofNat, decide_eq_true hlt, Bool.true_and]
  exact hbit

/-! ### The frame as one 40-bit number -/

/-- Byte `B[k + 1]` of a frame (R22). -/
def frameByte (f : Frame) : Fin 5 → Byte
  | 0 => f.b1
  | 1 => f.b2
  | 2 => f.b3
  | 3 => f.b4
  | 4 => f.b5

theorem frameByte_packFrame (f : Fin 40 → Bool) (k : Fin 5) : frameByte (packFrame f) k = pack f k := by
  fin_cases k <;> rfl

/-- Byte `B[k + 1]` stands in bits `8(4 - k) + 7` to `8(4 - k)` of the 40-bit number (R63). -/
theorem word_getLsbD_frameByte (f : Frame) (k : Fin 5) (p : Nat) (hp : p < 8) :
    f.word.getLsbD (p + 8 * (4 - k.val)) = (frameByte f k).getLsbD p := by
  have habove : ∀ c, 8 ≤ c → ¬ p + c < 8 := by omega
  unfold Frame.word
  rw [BitVec.getLsbD_append, BitVec.getLsbD_append, BitVec.getLsbD_append, BitVec.getLsbD_append]
  fin_cases k <;> simp [frameByte, hp, habove]

/-- Frame bit `f[j]` is bit `39 - j` of the 40-bit number made of the packed bytes (R63). -/
theorem packFrame_word_getLsbD (f : Fin 40 → Bool) (j : Fin 40) :
    (packFrame f).word.getLsbD (39 - j.val) = f j := by
  let k : Fin 5 := ⟨j.val / 8, by omega⟩
  let i : Fin 8 := ⟨j.val % 8, by omega⟩
  have hpos : 39 - j.val = (7 - i.val) + 8 * (4 - k.val) := by simp only [k, i]; omega
  have hj : 8 * k.val + i.val = j.val := Nat.div_add_mod j.val 8
  rw [hpos, word_getLsbD_frameByte _ _ _ (by omega), frameByte_packFrame, pack_getLsbD]
  exact congrArg f (Fin.ext hj)

theorem frameBit_iff (t : Vector Word 43) (j : Fin 40) :
    frameBit t j = true ↔
      100 ≤ (elapsed (t[j.val + 2]'(by omega)) (t[j.val + 1]'(by omega))).toNat :=
  bitDecide_iff _ _

/-- Settles O6: a captured frame packs the frame bits, so its bytes and its 40-bit number are read off by the lemmas about
`pack` and `packFrame`. -/
theorem frameBitsLieInArrivalOrder : Obligations.FrameBitsLieInArrivalOrder := by
  intro t j
  refine ⟨frameBit_iff t j, packFrame_word_getLsbD (frameBit t) j, fun i => ⟨?_, ?_, ?_, ?_, ?_⟩⟩
  · simpa [capturedFrame, packFrame] using pack_getLsbD (frameBit t) 0 i
  · exact pack_getLsbD (frameBit t) 1 i
  · exact pack_getLsbD (frameBit t) 2 i
  · exact pack_getLsbD (frameBit t) 3 i
  · exact pack_getLsbD (frameBit t) 4 i

/-! ### The checksum and the 16-bit fields -/

/-- Settles O9: the sum of four bytes as an 8-bit word is their sum modulo 256. -/
theorem checksumIsTheByteSumModulo256 : Obligations.ChecksumIsTheByteSumModulo256 := by
  intro f
  have hsum : (f.b1 + f.b2 + f.b3 + f.b4).toNat =
      (f.b1.toNat + f.b2.toNat + f.b3.toNat + f.b4.toNat) % 256 := by
    simp only [BitVec.toNat_add, Nat.reducePow, Nat.mod_add_mod]
  rw [checksumOk_iff, ← BitVec.toNat_inj, hsum]

/-- Two bytes side by side are the high and the low byte of a 16-bit number. -/
theorem byte_append_toNat (hi lo : Byte) : (hi ++ lo : Half).toNat = hi.toNat * 256 + lo.toNat := by
  rw [BitVec.toNat_append, ← Nat.shiftLeft_add_eq_or_of_lt lo.isLt, Nat.shiftLeft_eq]

/-- Settles O11: FIX256 hands on the two fields of R65, each two bytes side by side. -/
theorem fix256ConvertsTheSixteenBitFields : Obligations.Fix256ConvertsTheSixteenBitFields :=
  fun f => ⟨rfl, rfl, byte_append_toNat f.b1 f.b2, byte_append_toNat f.b3 f.b4⟩

end Sys2Proof.Machine
end

section
/-!
The family `43_decode.md`: packing frame bits into bytes (R94) and the INT8 conversion (R97).
-/
namespace Sys2Proof.Machine

/-- Settles O5: the digits of the number `pack` folds up stand in arrival order, the first one highest (`pack_getLsbD`). -/
theorem packPutsTheFirstBitHighest : Obligations.PackPutsTheFirstBitHighest := pack_getLsbD

/-- A byte above a zero fraction is that many whole units of 1/256 (R97). -/
theorem byte_append_zero_toNat (hi : Byte) : (hi ++ (0 : Byte) : Half).toNat = hi.toNat * 256 := by
  rw [byte_append_toNat, BitVec.ofNat_eq_ofNat, BitVec.toNat_zero, Nat.add_zero]

/-- The INT8 conversion reads bytes 1 and 3 alone (R97). -/
theorem convert_int8 (f : Frame) : convert .int8 f = (f.b3 ++ (0 : Byte), f.b1 ++ (0 : Byte)) := rfl

/-- Settles O10: INT8 puts bytes 1 and 3 above a zero fraction, and no other byte enters the result. -/
theorem int8ConvertsTheHighBytes : Obligations.Int8ConvertsTheHighBytes := by
  intro f
  refine ⟨?_, ?_, fun b2 b4 => ?_⟩
  · rw [convert_int8, byte_append_zero_toNat]
  · rw [convert_int8, byte_append_zero_toNat]
  · rw [convert_int8, convert_int8]

end Sys2Proof.Machine
end

section
/-!
The encodings: decoder and encoder are inverse to each other (R63, R70, R71), and what the decoder rejects (R72).
-/
namespace Sys2Proof

/-! ### The fields of an operation byte -/

theorem Phase.ofCode?_eq_some_iff (c : BitVec 3) (p : Phase) : Phase.ofCode? c = some p ↔ c = p.code := by
  revert c; cases p <;> decide

theorem Phase.code_eq_zero_iff (p : Phase) : p.code = 0 ↔ p = .idle := by
  cases p <;> decide

/-- An operation byte is its three fields side by side. -/
theorem byte_eq_append_fields (b : Byte) :
    b = b.extractLsb' 5 3 ++ b.extractLsb' 3 2 ++ b.extractLsb' 0 3 := by
  have hhigh : b.extractLsb' 5 3 ++ b.extractLsb' 3 2 = b.extractLsb' 3 5 :=
    BitVec.extractLsb'_append_extractLsb'_eq_extractLsb' (len₁ := 2) (len₂ := 3) rfl
  have hall : b.extractLsb' 3 5 ++ b.extractLsb' 0 3 = b.extractLsb' 0 8 :=
    BitVec.extractLsb'_append_extractLsb'_eq_extractLsb' (len₁ := 3) (len₂ := 5) rfl
  rw [hhigh, hall, BitVec.extractLsb'_eq_self]

/-- All the decoding of one byte can do: the operation its phase and command select, or one of two errors. -/
theorem decodeOpByte_cases (b : Byte) :
    (b.extractLsb' 5 3 ≠ 0 ∧ decodeOpByte b = .error .reservedBits) ∨
    (b.extractLsb' 5 3 = 0 ∧ Phase.ofCode? (b.extractLsb' 0 3) = none ∧
      decodeOpByte b = .error .reservedPhase) ∨
    (∃ p cmd, b = opByte p cmd ∧ decodeOpByte b = .ok (decodePhase p cmd)) := by
  by_cases hu : b.extractLsb' 5 3 = 0
  · cases hp : Phase.ofCode? (b.extractLsb' 0 3) with
    | none => exact .inr (.inl ⟨hu, rfl, by rw [decodeOpByte, if_pos hu, hp]⟩)
    | some p =>
      refine .inr (.inr ⟨p, b.extractLsb' 3 2, ?_, by rw [decodeOpByte, if_pos hu, hp]⟩)
      have hcode := (Phase.ofCode?_eq_some_iff _ p).1 hp
      rw [opByte, ← hu, ← hcode]
      exact byte_eq_append_fields b
  · exact .inl ⟨hu, by rw [decodeOpByte, if_neg hu]⟩

/-- Bytes of any length but one and five are no instruction (R72). -/
theorem decode_of_length {bs : List Byte} (h1 : bs.length ≠ 1) (h5 : bs.length ≠ 5) :
    decode bs = .error .badLength := by
  unfold decode
  split
  · exact absurd rfl h1
  · exact absurd rfl h5
  · rfl

/-- All the decoder can do, by the number of bytes. -/
theorem decode_cases (bs : List Byte) :
    (∃ b, bs = [b] ∧ decode bs = decodeOpByte b) ∨
    (∃ f, bs = encode (.frame f) ∧ decode bs = .ok (.frame f)) ∨
    (bs.length ≠ 1 ∧ bs.length ≠ 5 ∧ decode bs = .error .badLength) := by
  by_cases h1 : bs.length = 1
  · obtain ⟨b, rfl⟩ := List.length_eq_one_iff.1 h1
    exact .inl ⟨b, rfl, rfl⟩
  by_cases h5 : bs.length = 5
  · match bs, h5 with
    | [b1, b2, b3, b4, b5], _ => exact .inr (.inl ⟨⟨b1, b2, b3, b4, b5⟩, rfl, rfl⟩)
  · exact .inr (.inr ⟨h1, h5, decode_of_length h1 h5⟩)

/-! ### The round trip -/

theorem Instr.wellFormed_eq_true (i : Instr) : i.wellFormed = true := by cases i <;> rfl

/-- Every operation byte passes the byte check. -/
theorem wellFormedBytes_opByte (p : Phase) (cmd : BitVec 2) : wellFormedBytes [opByte p cmd] = true := by
  have hcode : p.code.toNat ≤ 5 := by cases p <;> decide
  simp [wellFormedBytes, phaseCodeLegal, upperBitsZero, hcode]

/-- Settles O2: a command or a micro-operation is encoded in the operation byte that selects it (`decode_opByte`), a frame
in its own bytes. -/
theorem decodeOfEncodeIsTheInstruction : Obligations.DecodeOfEncodeIsTheInstruction := by
  intro i _
  have hop (p : Phase) (cmd : BitVec 2) (hi : decodePhase p cmd = i) (he : encode i = [opByte p cmd]) :
      decode (encode i) = .ok i ∧ wellFormedBytes (encode i) = true := by
    rw [he, decode_opByte, hi]
    exact ⟨rfl, wellFormedBytes_opByte p cmd⟩
  cases i with
  | nop v => exact hop .idle (cmdWord v false) (decodeCmd_cmdWord v false) rfl
  | read v => exact hop .idle (cmdWord v true) (decodeCmd_cmdWord v true) rfl
  | hsPoll => exact hop .hsPoll 0 rfl rfl
  | wakeHold => exact hop .wakeHold 0 rfl rfl
  | capRelease => exact hop .capRelease 0 rfl rfl
  | capture => exact hop .capture 0 rfl rfl
  | finish => exact hop .finish 0 rfl rfl
  | frame f => exact ⟨rfl, rfl⟩

/-- A command word is the encoding of the command it selects. -/
theorem encode_decodeCmd (cmd : BitVec 2) : encode (decodeCmd cmd) = [opByte .idle cmd] := by
  revert cmd; decide

/-- The operation a phase selects is encoded in its operation byte, once the command bits a micro-operation does not
examine are zero (R70). -/
theorem encode_decodePhase (p : Phase) (cmd : BitVec 2) (h : p ≠ .idle → cmd = 0) :
    encode (decodePhase p cmd) = [opByte p cmd] := by
  cases p with
  | idle => exact encode_decodeCmd cmd
  | hsPoll | wakeHold | capRelease | capture | finish => rw [h (by decide)]; rfl

/-- Settles O3: one byte that decodes is the operation byte of a phase and a command (`decodeOpByte_cases`), five bytes are
a frame. -/
theorem encodeOfDecodeIsTheBytes : Obligations.EncodeOfDecodeIsTheBytes := by
  intro bs i hd hcmd
  obtain ⟨b, rfl, hb⟩ | ⟨f, rfl, hf⟩ | ⟨_, _, hbad⟩ := decode_cases bs
  · rw [hb] at hd
    obtain ⟨_, he⟩ | ⟨_, _, he⟩ | ⟨p, cmd, rfl, he⟩ := decodeOpByte_cases b
    · exact absurd (he.symm.trans hd) (by simp)
    · exact absurd (he.symm.trans hd) (by simp)
    · obtain rfl : decodePhase p cmd = i := by simpa [he] using hd
      refine encode_decodePhase p cmd fun hp => ?_
      simpa using hcmd _ rfl (by simpa using mt p.code_eq_zero_iff.1 hp)
  · obtain rfl : Instr.frame f = i := by simpa [hf] using hd
    rfl
  · exact absurd (hbad.symm.trans hd) (by simp)

/-- Settles O4: the number of bytes decides between a bad length and the rest (`decode_cases`), and the upper bits of one
byte come before its phase code (`decodeOpByte_cases`). -/
theorem decoderRejectsExactlyTheReserved : Obligations.DecoderRejectsExactlyTheReserved := by
  intro bs
  obtain ⟨b, rfl, hb⟩ | ⟨f, rfl, hf⟩ | ⟨h1, h5, hbad⟩ := decode_cases bs
  · rw [hb]
    simp only [List.cons.injEq, and_true, exists_eq_left', ← Phase.ofCode?_eq_none_iff]
    obtain ⟨hu, he⟩ | ⟨hu, hp, he⟩ | ⟨p, cmd, rfl, he⟩ := decodeOpByte_cases b
    · have hu : ¬b.extractLsb' 5 3 = 0#3 := hu
      simp [he, hu]
    · simp only [he, hu, hp]; simp
    · simp [he]
  · rw [hf]; simp [encode]
  · have hone : ∀ b, bs ≠ [b] := fun b hb => h1 (by simp [hb])
    simp [hbad, h1, h5, hone]

/-- Settles O1: the rows are words written out, so the decoder is run on each. -/
theorem tableWordsDecodeToTheirRows : Obligations.TableWordsDecodeToTheirRows := by
  unfold Obligations.TableWordsDecodeToTheirRows
  decide

end Sys2Proof
end

section
/-!
The operations as equations, each under its condition on the registers, with what an operation leaves alone; then the
statements about single operations (`40_handshake.md`, `41_capture.md`, `42_classification.md`, `43_decode.md`).
-/
namespace Sys2Proof.Machine

/-! ### Slots after the updates that do not touch the array -/

@[simp] theorem State.slot_setPhase (s : State) (p : Phase) (i : Nat) : (s.setPhase p).slot i = s.slot i := rfl
@[simp] theorem State.slot_setPrev (s : State) (v : Bool) (i : Nat) : (s.setPrev v).slot i = s.slot i := rfl
@[simp] theorem State.slot_setCount (s : State) (v : Count) (i : Nat) : (s.setCount v).slot i = s.slot i := rfl
@[simp] theorem State.slot_lineDir (s : State) (v : Bool) (i : Nat) : (s.lineDir v).slot i = s.slot i := rfl
@[simp] theorem State.slot_leaveCapture (s : State) (i : Nat) : s.leaveCapture.slot i = s.slot i := rfl
@[simp] theorem State.slot_advance (s : State) (i : Nat) : s.advance.slot i = s.slot i := rfl

theorem State.lt_of_slot {s : State} {i : Nat} {v : Word} (h : s.slot i = some v) : i < 43 := by
  by_contra hge
  rw [(s.slot_eq_none_iff i).2 (not_lt.1 hge)] at h
  cases h

/-! ### The handshake -/

theorem exec_nop (v : Variant) (s : State) : exec (.nop v) s = .next s := rfl

theorem exec_read (v : Variant) (s : State) :
    exec (.read v) s = .next ((((((s.lineDir true).lineWrite true).setVar v).setTRef
      s.inp.now).setDone false).setPhase .hsPoll) := rfl

theorem exec_hsPoll_of_closed {s : State} (he : 250 < (elapsed s.inp.now s.tRef).toNat) :
    exec .hsPoll s = .next (s.raise .busBusy) := by
  rw [exec, execHsPoll, if_pos (s.busWindowClosed_iff.2 he)]

theorem exec_hsPoll_of_open {s : State} (he : (elapsed s.inp.now s.tRef).toNat ≤ 250) :
    exec .hsPoll s =
      .next (if s.inp.lineIn then ((s.lineWrite false).setTRef s.inp.now).setPhase .wakeHold else s) := by
  rw [exec, execHsPoll, if_neg (mt s.busWindowClosed_iff.1 (not_lt.2 he))]
  exact (apply_ite Host.Outcome.next _ _ _).symm

theorem exec_wakeHold_of_run {s : State} (he : 2000 ≤ (elapsed s.inp.now s.tRef).toNat) :
    exec .wakeHold s = .next (((s.setCrit true).lineWrite true).setPhase .capRelease) := by
  rw [exec, execWakeHold, if_pos (s.wakeWindowRun_iff.2 he), State.critEnter_eq]

theorem exec_wakeHold_of_lt {s : State} (he : (elapsed s.inp.now s.tRef).toNat < 2000) :
    exec .wakeHold s = .next s := by
  rw [exec, execWakeHold, if_neg (mt s.wakeWindowRun_iff.1 (not_le.2 he))]

/-! ### Capture -/

theorem exec_capRelease (s : State) :
    exec .capRelease s = .next (((((s.lineDir false).storeBaseline s.inp.now).setCount 0).setPrev
      true).setPhase .capture) := rfl

theorem exec_capture_of_noSlot {s : State} (hn : 43 ≤ s.n.toNat) :
    exec .capture s = .fault (.slotOutOfRange s.n.toNat) := by
  rw [exec, execCapture, (s.slot_eq_none_iff _).2 hn]

theorem exec_capture_of_timeout {s : State} {last : Word} (hl : s.slot s.n.toNat = some last)
    (he : 20000 < (elapsed s.inp.now last).toNat) : exec .capture s = .next s.leaveCapture := by
  simp only [exec, execCapture, hl]
  rw [if_pos ((s.gapWindowClosed_iff last).2 he)]

/-- Inside the gap window a capture step records what there is to record, and then ends the sample. -/
theorem exec_capture_of_recorded {s s' : State} {last : Word} (hl : s.slot s.n.toNat = some last)
    (he : (elapsed s.inp.now last).toNat ≤ 20000) (hr : s.recordTransition = some s') :
    exec .capture s = .next s'.afterSample := by
  simp only [exec, execCapture, hl]
  rw [if_neg (mt (s.gapWindowClosed_iff last).1 (not_lt.2 he)), hr]

/-- Where the next slot does not exist the recording stops by name. -/
theorem exec_capture_of_notRecorded {s : State} {last : Word} (hl : s.slot s.n.toNat = some last)
    (he : (elapsed s.inp.now last).toNat ≤ 20000) (hr : s.recordTransition = none) :
    exec .capture s = .fault (.slotOutOfRange (s.n.toNat + 1)) := by
  simp only [exec, execCapture, hl]
  rw [if_neg (mt (s.gapWindowClosed_iff last).1 (not_lt.2 he)), hr]

theorem State.recordTransition_of_noEdge {s : State} (hf : ¬(s.prev = true ∧ s.inp.lineIn = false)) :
    s.recordTransition = some s := by
  rw [State.recordTransition, if_neg (mt s.fallingEdge_iff.1 hf)]

theorem State.recordTransition_of_edge {s : State} (hv : s.prev = true) (hi : s.inp.lineIn = false)
    (hn : s.n.toNat + 1 < 43) : s.recordTransition = some (s.recorded hn) := by
  rw [State.recordTransition, if_pos (s.fallingEdge_iff.2 ⟨hv, hi⟩), State.storeSlot, dif_pos hn]
  rfl

theorem State.recordTransition_of_edge_full {s : State} (hv : s.prev = true) (hi : s.inp.lineIn = false)
    (hn : 43 ≤ s.n.toNat + 1) : s.recordTransition = none := by
  rw [State.recordTransition, if_pos (s.fallingEdge_iff.2 ⟨hv, hi⟩), (s.storeSlot_eq_none_iff _ _).2 hn]
  rfl

theorem exec_capture_of_noEdge {s : State} {last : Word} (hl : s.slot s.n.toNat = some last)
    (he : (elapsed s.inp.now last).toNat ≤ 20000) (hf : ¬(s.prev = true ∧ s.inp.lineIn = false)) :
    exec .capture s = .next s.afterSample :=
  exec_capture_of_recorded hl he (State.recordTransition_of_noEdge hf)

theorem exec_capture_of_edge {s : State} {last : Word} (hl : s.slot s.n.toNat = some last)
    (he : (elapsed s.inp.now last).toNat ≤ 20000) (hv : s.prev = true) (hi : s.inp.lineIn = false)
    (hn : s.n.toNat + 1 < 43) : exec .capture s = .next (s.recorded hn).afterSample :=
  exec_capture_of_recorded hl he (State.recordTransition_of_edge hv hi hn)

theorem exec_capture_of_edge_full {s : State} {last : Word} (hl : s.slot s.n.toNat = some last)
    (he : (elapsed s.inp.now last).toNat ≤ 20000) (hv : s.prev = true) (hi : s.inp.lineIn = false)
    (hn : s.n.toNat = 42) : exec .capture s = .fault (.slotOutOfRange 43) := by
  rw [exec_capture_of_notRecorded hl he (State.recordTransition_of_edge_full hv hi (by omega)), hn]

theorem State.afterSample_of_full {s : State} (hn : s.n.toNat = 42) :
    s.afterSample = (s.setPrev s.inp.lineIn).leaveCapture := by
  obtain ⟨_, e⟩ | ⟨hne, _⟩ := s.afterSample_cases
  · exact e
  · exact absurd hn hne

theorem State.afterSample_of_ne {s : State} (hn : s.n.toNat ≠ 42) :
    s.afterSample = s.setPrev s.inp.lineIn := by
  obtain ⟨h, _⟩ | ⟨_, e⟩ := s.afterSample_cases
  · exact absurd h hn
  · exact e

@[simp] theorem State.afterSample_t (s : State) : s.afterSample.t = s.t := by
  obtain ⟨_, e⟩ | ⟨_, e⟩ := s.afterSample_cases <;> rw [e] <;> rfl

@[simp] theorem State.slot_afterSample (s : State) (i : Nat) : s.afterSample.slot i = s.slot i :=
  State.slot_congr s.afterSample_t i

@[simp] theorem State.afterSample_n (s : State) : s.afterSample.n = s.n := by
  obtain ⟨_, e⟩ | ⟨_, e⟩ := s.afterSample_cases <;> rw [e] <;> rfl

@[simp] theorem State.afterSample_prev (s : State) : s.afterSample.prev = s.inp.lineIn := by
  obtain ⟨_, e⟩ | ⟨_, e⟩ := s.afterSample_cases <;> rw [e] <;> rfl

theorem captureFrame_leaveCapture (s : State) : CaptureFrame s s.leaveCapture :=
  ⟨⟨rfl, rfl⟩, rfl, ⟨rfl, rfl⟩, rfl, ⟨rfl, rfl, rfl, rfl⟩, rfl, rfl, rfl⟩

theorem captureFrame_afterSample (s : State) : CaptureFrame s s.afterSample := by
  obtain ⟨_, e⟩ | ⟨_, e⟩ := s.afterSample_cases <;> rw [e]
  · exact captureFrame_leaveCapture (s.setPrev s.inp.lineIn)
  · exact ⟨⟨rfl, rfl⟩, rfl, ⟨rfl, rfl⟩, rfl, ⟨rfl, rfl, rfl, rfl⟩, rfl, rfl, rfl⟩

/-- A recorded transition changes nothing but the record. -/
theorem captureFrame_recorded_afterSample (s : State) (hn : s.n.toNat + 1 < 43) :
    CaptureFrame s (s.recorded hn).afterSample :=
  captureFrame_afterSample (s.recorded hn)

/-- The end of a sample at a full count is the exit of the loop. -/
theorem afterSample_exits {s : State} (hn : s.n.toNat = 42) :
    s.afterSample.phase = .finish ∧ s.afterSample.crit = false ∧ Writes s s.afterSample [.crit false] := by
  rw [State.afterSample_of_full hn]
  exact ⟨rfl, rfl, rfl⟩

/-- The end of a sample below a full count stays in the loop. -/
theorem afterSample_stays {s : State} (hn : s.n.toNat ≠ 42) :
    s.afterSample.phase = s.phase ∧ s.afterSample.crit = s.crit ∧ Writes s s.afterSample [] := by
  rw [State.afterSample_of_ne hn]
  exact ⟨rfl, rfl, (List.append_nil _).symm⟩

/-! ### The end of a read -/

/-- How an incomplete record fails: without a transition the sensor never answered (R90, R91). -/
def timeoutKind (n : Count) : ErrorKind := if n = 0 then .syncTimeout else .dataTimeout

theorem timeoutKind_zero : timeoutKind 0 = .syncTimeout := rfl

theorem timeoutKind_of_pos {n : Count} (hn : 1 ≤ n.toNat) : timeoutKind n = .dataTimeout := by
  have hne : n ≠ 0 := by rintro rfl; simp at hn
  exact if_neg hne

theorem exec_finish_of_incomplete {s : State} (hn : s.n.toNat ≤ 41) :
    exec .finish s = .next (s.raise (timeoutKind s.n)) := by
  obtain ⟨h0, e⟩ | ⟨h1, _, e⟩ | ⟨h42, _⟩ := execFinish_cases s
  · rw [e, h0, timeoutKind_zero]
  · rw [e, timeoutKind_of_pos h1]
  · omega

theorem exec_finish_of_complete {s : State} (hn : 42 ≤ s.n.toNat) :
    exec .finish s = .next (s.consumeFrame (capturedFrame s.t)) := by
  obtain ⟨h0, _⟩ | ⟨_, h41, _⟩ | ⟨_, e⟩ := execFinish_cases s
  · simp [h0] at hn
  · omega
  · exact e

theorem exec_frame (f : Frame) (s : State) : exec (.frame f) s = .next (s.consumeFrame f) := rfl

theorem endFrame_raise (s : State) (k : ErrorKind) : EndFrame s (s.raise k) :=
  ⟨⟨rfl, rfl, rfl⟩, ⟨rfl, rfl⟩, ⟨rfl, rfl⟩, rfl, ⟨rfl, rfl, rfl⟩, rfl⟩

theorem endFrame_returnSuccess (s : State) (temp hum : Half) : EndFrame s (s.returnSuccess temp hum) :=
  ⟨⟨rfl, rfl, rfl⟩, ⟨rfl, rfl⟩, ⟨rfl, rfl⟩, rfl, ⟨rfl, rfl, rfl⟩, rfl⟩

theorem endFrame_consumeFrame (s : State) (f : Frame) : EndFrame s (s.consumeFrame f) := by
  obtain ⟨_, e⟩ | ⟨_, e⟩ := s.consumeFrame_cases f <;> rw [e]
  · exact endFrame_returnSuccess (s.setFrame f) _ _
  · exact endFrame_raise (s.setFrame f) _

@[simp] theorem State.consumeFrame_phase (s : State) (f : Frame) : (s.consumeFrame f).phase = .idle := by
  obtain ⟨_, e⟩ | ⟨_, e⟩ := s.consumeFrame_cases f <;> rw [e] <;> rfl

@[simp] theorem State.consumeFrame_done (s : State) (f : Frame) : (s.consumeFrame f).done = true := by
  obtain ⟨_, e⟩ | ⟨_, e⟩ := s.consumeFrame_cases f <;> rw [e] <;> rfl

@[simp] theorem State.consumeFrame_b (s : State) (f : Frame) : (s.consumeFrame f).b = f := by
  obtain ⟨_, e⟩ | ⟨_, e⟩ := s.consumeFrame_cases f <;> rw [e] <;> rfl

/-- Consuming a frame does what `42_classification.md` FINISH and `43_decode.md` Return say. -/
theorem consumesFrame_consumeFrame (f : Frame) (s : State) : ConsumesFrame f s (s.consumeFrame f) := by
  have hsum := checksumIsTheByteSumModulo256 f
  refine ⟨s.consumeFrame_b f, s.consumeFrame_phase f, s.consumeFrame_done f, fun heq => ?_, fun hne => ?_,
    endFrame_consumeFrame s f⟩
  · rw [State.consumeFrame, if_pos (hsum.2 heq)]
    refine ⟨rfl, fun hv => ?_, fun hv => ?_⟩
    · obtain ⟨hhum, htemp, _⟩ := int8ConvertsTheHighBytes f
      rw [hv]
      exact ⟨hhum, htemp⟩
    · obtain ⟨hhum, htemp, hhum16, htemp16⟩ := fix256ConvertsTheSixteenBitFields f
      rw [hv, State.returnSuccess_resHum, State.returnSuccess_resTemp, hhum, htemp]
      exact ⟨hhum16, htemp16⟩
  · rw [State.consumeFrame, if_neg (mt hsum.1 hne)]
    exact ⟨rfl, rfl⟩

/-- The meaningful result of a frame depends on the frame and the latched variant alone. -/
theorem resultEq_consumeFrame {a b : State} (hv : a.var = b.var) (f : Frame) :
    ResultEq (a.consumeFrame f) (b.consumeFrame f) := by
  cases hc : checksumOk f <;> simp [State.consumeFrame, hc, ResultEq, hv]

/-! ### The statements -/

/-- Settles O13: NOP answers the state itself. -/
theorem nopChangesNothing : Obligations.NopChangesNothing := fun v s =>
  ⟨s, exec_nop v s, rfl, ⟨rfl, rfl, rfl⟩, ⟨rfl, rfl⟩, rfl, ⟨rfl, rfl⟩, rfl, rfl, ⟨rfl, rfl, rfl, rfl⟩,
    ⟨rfl, rfl, rfl⟩, (List.append_nil _).symm⟩

/-- Settles O14: the updates of `exec_read`, read off field by field. -/
theorem readOpensTheBusBusyWindow : Obligations.ReadOpensTheBusBusyWindow := by
  intro v s
  refine ⟨_, exec_read v s, ?_⟩
  simp [SameRecord, SameResult, SameInputs, Writes]

/-- Settles O15: inside the window the level alone decides (`exec_hsPoll_of_open`). -/
theorem hsPollInsideTheWindowFollowsTheLevel : Obligations.HsPollInsideTheWindowFollowsTheLevel := by
  intro s he
  refine ⟨fun hi => ?_, fun lo => by simp [exec_hsPoll_of_open he, lo]⟩
  refine ⟨_, exec_hsPoll_of_open he, ?_⟩
  simp [hi, SameRecord, SameResult, SameInputs, Writes]

/-- Settles O16: after the window the level is not looked at. -/
theorem hsPollAfterTheWindowRaisesBusBusy : Obligations.HsPollAfterTheWindowRaisesBusBusy := by
  intro s he
  obtain ⟨hrec, hhs, hline, hcrit, hinp, hw⟩ := endFrame_raise s .busBusy
  exact ⟨_, exec_hsPoll_of_closed he, rfl, rfl, rfl, rfl, hrec, hhs, rfl, hline, hcrit, hinp, hw⟩

/-- Settles O17: the wake window either has run or has not. -/
theorem wakeHoldEndsAfterTheWakeWindow : Obligations.WakeHoldEndsAfterTheWakeWindow := by
  intro s
  refine ⟨fun he => ⟨_, exec_wakeHold_of_run he, ?_⟩, exec_wakeHold_of_lt⟩
  simp [SameRecord, SameHandshake, SameResult, SameInputs, Writes]

/-- Settles O18: the baseline is the one slot written (`slot_storeBaseline`). -/
theorem capReleaseTakesTheBaseline : Obligations.CapReleaseTakesTheBaseline := by
  intro s
  refine ⟨_, exec_capRelease s, ?_⟩
  simp +contextual [State.slot_storeBaseline, SameHandshake, SameResult, SameInputs, Writes]

/-- Settles O19: the timeout exit does not use the sample. -/
theorem captureTimesOutAfterTheGapWindow : Obligations.CaptureTimesOutAfterTheGapWindow := fun s _ hl he =>
  ⟨_, exec_capture_of_timeout hl he, rfl, rfl, ⟨rfl, rfl, rfl⟩, captureFrame_leaveCapture s, rfl⟩

/-- Settles O20: the transition is recorded (`slot_recorded`), then the rest of the sample exits the loop at a full count
or stays in it. -/
theorem captureRecordsAFallingEdge : Obligations.CaptureRecordsAFallingEdge := by
  intro s last hn hl he hv hi
  have hlt : s.n.toNat + 1 < 43 := by omega
  have hcount := s.recorded_count hlt
  refine ⟨_, exec_capture_of_edge hl he hv hi hlt, by simp, by simpa using hi, by simp [State.slot_recorded],
    fun i hne => by simp [State.slot_recorded, hne], captureFrame_recorded_afterSample s hlt,
    fun h41 => ?_, fun h41 => ?_⟩
  · exact afterSample_exits (by omega)
  · exact afterSample_stays (by omega)

/-- Settles O21: without an edge only the rest of the sample runs. -/
theorem captureWithoutAnEdgeOnlyRemembersTheLevel : Obligations.CaptureWithoutAnEdgeOnlyRemembersTheLevel := by
  intro s last hl he hf
  refine ⟨_, exec_capture_of_noEdge hl he hf, s.afterSample_n, s.afterSample_prev, s.afterSample_t,
    captureFrame_afterSample s, fun hn => ?_, afterSample_exits⟩
  exact afterSample_stays (by omega)

/-- Settles O22: of the four ways a capture step with a slot can go, only the recorded transition changes the count. -/
theorem captureCountsExactlyTheFallingEdges : Obligations.CaptureCountsExactlyTheFallingEdges := by
  intro s s' last hl hs
  by_cases he : (elapsed s.inp.now last).toNat ≤ 20000
  · by_cases hf : s.prev = true ∧ s.inp.lineIn = false
    · refine iff_of_true (fun heq => ?_) ⟨he, hf⟩
      have hn := State.lt_of_slot hl
      by_cases h42 : s.n.toNat = 42
      · rw [exec_capture_of_edge_full hl he hf.1 hf.2 h42] at hs
        cases hs
      · have hlt : s.n.toNat + 1 < 43 := by omega
        obtain rfl : (s.recorded hlt).afterSample = s' := by
          simpa [exec_capture_of_edge hl he hf.1 hf.2 hlt] using hs
        have hcount := s.recorded_count hlt
        rw [State.afterSample_n] at heq
        rw [heq] at hcount
        omega
    · obtain rfl : s.afterSample = s' := by simpa [exec_capture_of_noEdge hl he hf] using hs
      exact iff_of_false (by simp) fun h => hf h.2
  · obtain rfl : s.leaveCapture = s' := by simpa [exec_capture_of_timeout hl (not_le.1 he)] using hs
    exact iff_of_false (by simp) fun h => he h.1

/-- Settles O23: the slot that would be read, or written, does not exist. -/
theorem captureStopsOutsideTheSlotArray : Obligations.CaptureStopsOutsideTheSlotArray := by
  intro s
  refine ⟨exec_capture_of_noSlot, fun last hn hl he hv hi => ?_⟩
  rw [← hn] at hl
  exact exec_capture_of_edge_full hl he hv hi hn

/-- Settles O24: an incomplete record without a transition. -/
theorem finishWithNoTransitionIsSyncTimeout : Obligations.FinishWithNoTransitionIsSyncTimeout := by
  intro s hn
  refine ⟨_, exec_finish_of_incomplete (by simp [hn]), rfl, rfl, rfl, ?_, rfl, endFrame_raise s _⟩
  rw [State.raise_resKind, hn, timeoutKind_zero]

/-- Settles O25: an incomplete record with a transition; the slots are not read. -/
theorem finishWithAPartialRecordIsDataTimeout : Obligations.FinishWithAPartialRecordIsDataTimeout := fun s h1 h41 =>
  ⟨_, exec_finish_of_incomplete h41, rfl, rfl, rfl, timeoutKind_of_pos h1, rfl, endFrame_raise s _,
    fun t => exec_finish_of_incomplete (s := { s with t := t }) h41⟩

/-- Settles O26: the timeout exit leaves the count as it is, so FINISH finds an incomplete record and reads no slot. -/
theorem incompleteRecordsAreNeverDecoded : Obligations.IncompleteRecordsAreNeverDecoded := fun s _ hn hl he =>
  ⟨_, _, exec_capture_of_timeout hl he, rfl, hn, exec_finish_of_incomplete (s := s.leaveCapture) hn, rfl, rfl,
    fun t => exec_finish_of_incomplete (s := { s.leaveCapture with t := t }) hn⟩

/-- Settles O27: a complete record is its frame, consumed. -/
theorem finishWithACompleteRecordConsumesItsFrame : Obligations.FinishWithACompleteRecordConsumesItsFrame :=
  fun s hn => ⟨_, exec_finish_of_complete hn, consumesFrame_consumeFrame _ s⟩

/-- Settles O28: FINISH and FRAME both hand the frame to `consumeFrame`. -/
theorem frameIsConsumedAsFinishConsumesIt : Obligations.FrameIsConsumedAsFinishConsumesIt := by
  intro f s
  refine ⟨⟨_, exec_frame f s, consumesFrame_consumeFrame f s⟩, fun hn hf => ?_⟩
  rw [exec_finish_of_complete hn, hf, exec_frame]

/-- A frame bit is decided by one delta, so records with the same deltas carry the same frame. -/
theorem capturedFrame_congr {t u : Vector Word 43}
    (h : ∀ i : Fin 40, elapsed (t[i.val + 2]'(by omega)) (t[i.val + 1]'(by omega)) =
      elapsed (u[i.val + 2]'(by omega)) (u[i.val + 1]'(by omega))) :
    capturedFrame t = capturedFrame u := by
  have hbit : frameBit t = frameBit u := funext fun i => by rw [Bool.eq_iff_iff, frameBit_iff, frameBit_iff, h i]
  rw [capturedFrame, capturedFrame, hbit]

/-- Settles O12: both records carry one frame (`capturedFrame_congr`), and a frame has one meaningful result for a variant
(`resultEq_consumeFrame`). -/
theorem decodingDependsOnTheDeltasAlone : Obligations.DecodingDependsOnTheDeltasAlone := by
  intro a b ha hb hv hd
  refine ⟨_, _, exec_finish_of_complete (by simp [ha]), exec_finish_of_complete (by simp [hb]), ?_, ?_⟩
  · rw [State.consumeFrame_b, State.consumeFrame_b, capturedFrame_congr hd]
  · rw [capturedFrame_congr hd]
    exact resultEq_consumeFrame hv _

/-- Settles O7: `elapsed` undoes the advance of the counter (`elapsed_ofNat_add_toNat`). -/
theorem elapsedIsTheTrueTimeAcrossAWrap : Obligations.ElapsedIsTheTrueTimeAcrossAWrap := elapsed_ofNat_add_toNat

end Sys2Proof.Machine
end

section
/-!
The step as an equation, and the ways it can go turned round: each case of `StepCase` is a step. Then the statements about
one step (`10_state.md` sections 2 and 7, `20_memory.md` sections 1 and 2, `40_handshake.md`, `70_reset_and_hazards.md`).
-/
namespace Sys2Proof.Machine

/-! ### The step as an equation -/

/-- Go on from a next state; a stop stays as it is. -/
def mapNext (f : State → State) : Host.Outcome State Fault Refusal → Host.Outcome State Fault Refusal
  | .next s => .next (f s)
  | .fault r => .fault r
  | .refused r => .refused r

@[simp] theorem mapNext_next (f : State → State) (s : State) : mapNext f (.next s) = .next (f s) := rfl
@[simp] theorem mapNext_fault (f : State → State) (r : Fault) : mapNext f (.fault r) = .fault r := rfl
@[simp] theorem mapNext_refused (f : State → State) (r : Refusal) : mapNext f (.refused r) = .refused r := rfl

theorem step_of_reset {s : State} (hr : s.inp.rst = true) : step s = .next s.resetStep.advance :=
  (step_eq_next_iff s _).2 (.inl ⟨hr, rfl⟩)

theorem step_of_noReset {s : State} (hr : s.inp.rst = false) :
    step s = mapNext State.advance (exec s.fetch s) := by
  rw [step, stepRegisters, hr]
  cases exec s.fetch s <;> rfl

theorem step_of_exec {s t : State} {i : Instr} (hr : s.inp.rst = false) (hi : s.fetch = i)
    (he : exec i s = .next t) : step s = .next t.advance := by
  rw [step_of_noReset hr, hi, he, mapNext_next]

/-- Each case of `StepCase` is a step. -/
theorem step_of_stepCase {s s' : State} (h : StepCase s s') : step s = .next s' := by
  obtain ⟨fnop, fread, fpoll, fwake, frelease, fcapture, ffinish⟩ := fetch_of_phase s
  cases h with
  | reset hr => exact step_of_reset hr
  | nop hr hp hs => exact step_of_exec hr (fnop hp hs) (exec_nop _ s)
  | read hr hp hs => exact step_of_exec hr (fread hp hs) (exec_read _ s)
  | pollBusBusy hr hp he => exact step_of_exec hr (fpoll hp) (exec_hsPoll_of_closed he)
  | pollHigh hr hp he hl => exact step_of_exec hr (fpoll hp) (by simp [exec_hsPoll_of_open he, hl])
  | pollLow hr hp he hl => exact step_of_exec hr (fpoll hp) (by simp [exec_hsPoll_of_open he, hl])
  | wakeEnd hr hp he => exact step_of_exec hr (fwake hp) (exec_wakeHold_of_run he)
  | wakeStay hr hp he => exact step_of_exec hr (fwake hp) (exec_wakeHold_of_lt he)
  | release hr hp => exact step_of_exec hr (frelease hp) (exec_capRelease s)
  | gapTimeout hr hp last hl he => exact step_of_exec hr (fcapture hp) (exec_capture_of_timeout hl he)
  | noEdge hr hp last hl he hf hn =>
    refine step_of_exec hr (fcapture hp) ?_
    rw [exec_capture_of_noEdge hl he hf, State.afterSample_of_ne (by omega)]
  | noEdgeAtFullCount hr hp last hl he hf hn =>
    refine step_of_exec hr (fcapture hp) ?_
    rw [exec_capture_of_noEdge hl he hf, State.afterSample_of_full hn]
  | edge hr hp last hl he hv hi hn =>
    have hcount := s.recorded_count (by omega)
    refine step_of_exec hr (fcapture hp) ?_
    rw [exec_capture_of_edge hl he hv hi (by omega), State.afterSample_of_ne (by omega), State.recorded_inp, hi]
  | lastEdge hr hp last hl he hv hi hn =>
    have hcount := s.recorded_count (by omega)
    refine step_of_exec hr (fcapture hp) ?_
    rw [exec_capture_of_edge hl he hv hi (by omega), State.afterSample_of_full (by omega), State.recorded_inp, hi]
  | syncTimeout hr hp hn =>
    refine step_of_exec hr (ffinish hp) ?_
    rw [exec_finish_of_incomplete (by simp [hn]), hn, timeoutKind_zero]
  | dataTimeout hr hp h1 h2 =>
    refine step_of_exec hr (ffinish hp) ?_
    rw [exec_finish_of_incomplete h2, timeoutKind_of_pos h1]
  | success hr hp hn hc =>
    refine step_of_exec hr (ffinish hp) ?_
    rw [exec_finish_of_complete hn, State.consumeFrame, if_pos hc]
  | mismatch hr hp hn hc =>
    refine step_of_exec hr (ffinish hp) ?_
    rw [exec_finish_of_complete hn, State.consumeFrame, if_neg (by simp [hc])]

/-- The cases are exactly the steps, so there is one case for a state. -/
theorem StepCase.unique {s s₁ s₂ : State} (h₁ : StepCase s s₁) (h₂ : StepCase s s₂) : s₁ = s₂ := by
  simpa [step_of_stepCase h₁] using step_of_stepCase h₂

/-- The count is below a full one while CAPTURE runs (R53), all that a step needs to give a next state. -/
def CountInRange (s : State) : Prop := s.phase = .capture → s.n.toNat ≤ 41

/-- With the count in range there is a case for every state. -/
theorem exists_stepCase {s : State} (hcount : CountInRange s) : ∃ s', StepCase s s' := by
  cases hr : s.inp.rst
  case true => exact ⟨_, .reset hr⟩
  cases hp : s.phase with
  | idle =>
    cases hs : s.inp.start
    · exact ⟨_, .nop hr hp hs⟩
    · exact ⟨_, .read hr hp hs⟩
  | hsPoll =>
    by_cases he : 250 < (elapsed s.inp.now s.tRef).toNat
    · exact ⟨_, .pollBusBusy hr hp he⟩
    cases hl : s.inp.lineIn
    · exact ⟨_, .pollLow hr hp (not_lt.1 he) hl⟩
    · exact ⟨_, .pollHigh hr hp (not_lt.1 he) hl⟩
  | wakeHold =>
    by_cases he : 2000 ≤ (elapsed s.inp.now s.tRef).toNat
    · exact ⟨_, .wakeEnd hr hp he⟩
    · exact ⟨_, .wakeStay hr hp (not_le.1 he)⟩
  | capRelease => exact ⟨_, .release hr hp⟩
  | capture =>
    have hn := hcount hp
    obtain ⟨last, hl⟩ := s.slot_isSome_of_lt s.n.toNat (by omega)
    by_cases he : 20000 < (elapsed s.inp.now last).toNat
    · exact ⟨_, .gapTimeout hr hp last hl he⟩
    by_cases hf : s.prev = true ∧ s.inp.lineIn = false
    · by_cases h41 : s.n.toNat = 41
      · exact ⟨_, .lastEdge hr hp last hl (not_lt.1 he) hf.1 hf.2 h41⟩
      · exact ⟨_, .edge hr hp last hl (not_lt.1 he) hf.1 hf.2 (by omega)⟩
    · exact ⟨_, .noEdge hr hp last hl (not_lt.1 he) hf (by omega)⟩
  | finish =>
    by_cases h0 : s.n = 0
    · exact ⟨_, .syncTimeout hr hp h0⟩
    have hpos : s.n.toNat ≠ 0 := fun h => h0 (BitVec.eq_of_toNat_eq h)
    by_cases h41 : s.n.toNat ≤ 41
    · exact ⟨_, .dataTimeout hr hp (by omega) h41⟩
    cases hc : checksumOk (capturedFrame s.t)
    · exact ⟨_, .mismatch hr hp (by omega) hc⟩
    · exact ⟨_, .success hr hp (by omega) hc⟩

/-- All that a step which ends a read can be: BusBusy in HS_POLL, or FINISH with an incomplete or a complete record. -/
theorem readEnd_cases {s s' : State} (h : StepCase s s') (hr : s.inp.rst = false) (hp : s.phase ≠ .idle)
    (hp' : s'.phase = .idle) :
    (s.phase = .hsPoll ∧ s' = (s.raise .busBusy).advance) ∨
    (s.phase = .finish ∧ s.n.toNat ≤ 41 ∧ s' = (s.raise (timeoutKind s.n)).advance) ∨
    (s.phase = .finish ∧ 42 ≤ s.n.toNat ∧ s' = (s.consumeFrame (capturedFrame s.t)).advance) := by
  cases h with
  | reset hr' => simp [hr] at hr'
  | nop _ hidle | read _ hidle => exact absurd hidle hp
  | pollBusBusy _ hph => exact .inl ⟨hph, rfl⟩
  | syncTimeout _ hph hn => exact .inr (.inl ⟨hph, by simp [hn], by rw [hn, timeoutKind_zero]⟩)
  | dataTimeout _ hph h1 h41 => exact .inr (.inl ⟨hph, h41, by rw [timeoutKind_of_pos h1]⟩)
  | success _ hph hn hc => exact .inr (.inr ⟨hph, hn, by rw [State.consumeFrame, if_pos hc]⟩)
  | mismatch _ hph hn hc => exact .inr (.inr ⟨hph, hn, by rw [State.consumeFrame, if_neg (by simp [hc])]⟩)
  | pollHigh | wakeEnd | release | gapTimeout | noEdgeAtFullCount | lastEdge => simp at hp'
  | pollLow _ hph | wakeStay _ hph | noEdge _ hph | edge _ hph => simp [hph] at hp'

/-- A step that ends a read shows `done`. -/
theorem done_of_readEnd {s s' : State} (h : StepCase s s') (hr : s.inp.rst = false) (hp : s.phase ≠ .idle)
    (hp' : s'.phase = .idle) : s'.done = true := by
  obtain ⟨_, rfl⟩ | ⟨_, _, rfl⟩ | ⟨_, _, rfl⟩ := readEnd_cases h hr hp hp'
  · simp
  · simp
  · simp

/-! ### The statements about the registers a step writes -/

/-- Settles O35: of the steps that are no reset steps, the acceptance of a READ alone writes `var`. -/
theorem variantIsLatchedAtReadOnly : Obligations.VariantIsLatchedAtReadOnly := by
  intro s s' h hr
  refine ⟨fun hp hs => ?_, fun hno => ?_⟩
  · obtain rfl := (step_cases h).unique (.read hr hp hs)
    rfl
  · cases step_cases h with
    | reset hr' => simp [hr] at hr'
    | read _ hp hs => exact absurd ⟨hp, hs⟩ hno
    | _ => simp

/-- The record outside the two capture phases. -/
theorem sameRecord_of_stepCase {s s' : State} (h : StepCase s s') (hr : s.inp.rst = false)
    (hrel : s.phase ≠ .capRelease) (hcap : s.phase ≠ .capture) : SameRecord s s' := by
  cases h with
  | reset hr' => simp [hr] at hr'
  | release _ hp => exact absurd hp hrel
  | gapTimeout _ hp | noEdge _ hp | noEdgeAtFullCount _ hp | edge _ hp | lastEdge _ hp => exact absurd hp hcap
  | _ => simp [SameRecord]

/-- Settles O36: CAP_RELEASE writes the baseline (`slot_storeBaseline`), CAPTURE the next slot (`slot_recorded`), and no
other operation stores. -/
theorem slotsAreWrittenOnlyByCapture : Obligations.SlotsAreWrittenOnlyByCapture := by
  intro s s' h hr
  refine ⟨sameRecord_of_stepCase (step_cases h) hr, fun hp i hi => ?_, fun hp i hi => ?_⟩
  · obtain rfl := (step_cases h).unique (.release hr hp)
    simp [State.slot_storeBaseline, hi]
  · cases step_cases h with
    | edge | lastEdge => simp [State.slot_recorded, hi]
    | gapTimeout | noEdge | noEdgeAtFullCount => rfl
    | _ => simp_all

/-- Settles O37: the result ports are written where a read ends, `done` is cleared by a READ, and `B` is written with a
complete record. -/
theorem resultsAreHeldUntilTheNextRead : Obligations.ResultsAreHeldUntilTheNextRead := by
  intro s s' h hr
  refine ⟨fun hno => ?_, fun hd hd' => ?_, fun hb => ?_⟩
  · cases step_cases h with
    | reset hr' => simp [hr] at hr'
    | pollBusBusy _ hp | syncTimeout _ hp | dataTimeout _ hp | success _ hp | mismatch _ hp =>
      exact absurd ⟨by simp [hp], rfl⟩ hno
    | _ => simp [SameResult]
  · cases step_cases h with
    | reset hr' => simp [hr] at hr'
    | read _ hp hs => exact ⟨hp, hs⟩
    | pollBusBusy | syncTimeout | dataTimeout | success | mismatch => simp at hd'
    | _ => simp [hd] at hd'
  · cases step_cases h with
    | reset hr' => simp [hr] at hr'
    | success _ hp hn | mismatch _ hp hn => exact ⟨hp, hn⟩
    | _ => simp at hb

/-! ### The statements about the decoded operation and the next sample -/

/-- Settles O29: the operation byte decodes to `fetch` (`decode_fetchByte`), which a step runs (`step_of_noReset`). -/
theorem stepRunsTheDecodedInstruction : Obligations.StepRunsTheDecodedInstruction := by
  intro s
  refine ⟨⟨_, decode_fetchByte s, Instr.wellFormed_eq_true _⟩, fun i hd hr => ?_, s.nextSample_cons⟩
  obtain rfl : s.fetch = i := by simpa [decode_fetchByte] using hd
  rw [step_of_noReset hr]
  cases exec s.fetch s <;> rfl

/-- Settles O30: the reset step and then the sample drawn or listed for the block in IDLE (`resetStep_nextSample`). -/
theorem resetStepReleasesTheLineAndGoesIdle : Obligations.ResetStepReleasesTheLineAndGoesIdle := by
  intro s hr
  exact ⟨_, step_of_reset hr, rfl, rfl, rfl, rfl, rfl, s.resetStep_nextSample,
    fun p l hp => s.resetStep.nextSample_cons p l hp, rfl, rfl, rfl⟩

/-- A drawn sample is later than the last by less than the limit of R15. -/
theorem clockOk_drawSample (s : State) : ClockOk s.inp s.drawSample := by
  have hlt : Config.freeAdvance s.tick % Config.maxAdvance < Config.maxAdvance := Nat.mod_lt _ (by decide)
  have hmax : Config.maxAdvance < 2 ^ 32 := by decide
  have hsub : elapsed s.drawSample.now s.inp.now =
      BitVec.ofNat 32 (Config.freeAdvance s.tick % Config.maxAdvance) := by
    rw [elapsed, State.drawSample, BitVec.add_comm, BitVec.add_sub_cancel]
  rw [ClockOk, hsub, BitVec.toNat_ofNat, Nat.mod_eq_of_lt (hlt.trans hmax)]
  exact hlt

/-- The registers of a step leave the sample and the list of samples alone until `advance` takes the next one. -/
theorem step_advances {s s' : State} (h : step s = .next s') :
    ∃ t : State, s' = t.advance ∧ t.inp = s.inp ∧ t.pending = s.pending := by
  obtain ⟨_, rfl⟩ | ⟨_, t, ht, rfl⟩ := (step_eq_next_iff s s').1 h
  · exact ⟨_, rfl, rfl, rfl⟩
  · obtain ⟨hinp, hpend, _⟩ := exec_keeps_inputs ht
    exact ⟨t, rfl, hinp, hpend⟩

/-- Settles O49: the sample is drawn from the state the registers of the step leave (`step_advances`). -/
theorem drawnSamplesKeepTheHostsDuties : Obligations.DrawnSamplesKeepTheHostsDuties := by
  intro s s' h hp
  obtain ⟨t, rfl, hinp, hpend⟩ := step_advances h
  have hdraw : t.advance.inp = t.drawSample := t.nextSample_nil (hpend.trans hp)
  rw [hdraw, ← hinp]
  refine ⟨clockOk_drawSample t, rfl, fun hs => ?_⟩
  have hbusy : t.busy = false := by simpa using (Bool.and_eq_true_iff.1 hs).2
  exact hbusy

end Sys2Proof.Machine
end

section
/-!
The invariants of the sequencer, the record and the port writes (`10_state.md` section 3, `41_capture.md`, `20_memory.md`
section 6, `60_exceptions.md` sections 1 to 3): every step keeps each of them, case by case of `StepCase`.
-/
namespace Sys2Proof.Machine

/-! ### The sequencer invariant, phase by phase -/

theorem sequencerInv_idle {s : State} (hp : s.phase = .idle) :
    SequencerInv s ↔ s.crit = false ∧ s.lineOut = true ∧
      s.lineOe = (s.done && !s.resOk && decide (s.resKind = .busBusy)) := by
  simp [SequencerInv, expectedLineOe, hp]

theorem sequencerInv_hsPoll {s : State} (hp : s.phase = .hsPoll) :
    SequencerInv s ↔ s.crit = false ∧ s.lineOut = true ∧ s.lineOe = true ∧ s.done = false := by
  simp [SequencerInv, expectedLineOe, hp]

theorem sequencerInv_wakeHold {s : State} (hp : s.phase = .wakeHold) :
    SequencerInv s ↔ s.crit = false ∧ s.lineOut = false ∧ s.lineOe = true ∧ s.done = false := by
  simp [SequencerInv, expectedLineOe, hp]

theorem sequencerInv_capRelease {s : State} (hp : s.phase = .capRelease) :
    SequencerInv s ↔ s.crit = true ∧ s.lineOut = true ∧ s.lineOe = true ∧ s.done = false := by
  simp [SequencerInv, expectedLineOe, hp]

theorem sequencerInv_capture {s : State} (hp : s.phase = .capture) :
    SequencerInv s ↔ s.crit = true ∧ s.lineOut = true ∧ s.lineOe = false ∧ s.done = false ∧
      s.n.toNat ≤ 41 := by
  simp [SequencerInv, expectedLineOe, hp]

theorem sequencerInv_finish {s : State} (hp : s.phase = .finish) :
    SequencerInv s ↔ s.crit = false ∧ s.lineOut = true ∧ s.lineOe = false ∧ s.done = false ∧
      s.n.toNat ≤ 42 := by
  simp [SequencerInv, expectedLineOe, hp]

/-- No input is in the invariant, so the passage to the next sample keeps it. -/
theorem sequencerInv_advance (s : State) : SequencerInv s.advance ↔ SequencerInv s := Iff.rfl

theorem SequencerInv.countInRange {s : State} (h : SequencerInv s) : CountInRange s := fun hp => by
  obtain ⟨_, _, _, _, hn⟩ := (sequencerInv_capture hp).1 h
  exact hn

/-- A failure in a phase where the line is as that failure leaves it. -/
theorem sequencerInv_raise {s : State} {k : ErrorKind} (hcrit : s.crit = false) (hout : s.lineOut = true)
    (hoe : s.lineOe = decide (k = .busBusy)) : SequencerInv (s.raise k) :=
  (sequencerInv_idle rfl).2 ⟨hcrit, hout, hoe⟩

/-- Settles O39: in each case of the step the invariant of the phase before gives that of the phase after. -/
theorem everyStepKeepsTheSequencerInvariant : Obligations.EveryStepKeepsTheSequencerInvariant := by
  intro s s' h hs
  cases step_cases hs <;> rw [sequencerInv_advance]
  case reset => exact (sequencerInv_idle rfl).2 (by simp)
  case nop | pollLow | wakeStay => exact h
  case read hr hp hs =>
    obtain ⟨hcrit, _⟩ := (sequencerInv_idle hp).1 h
    exact (sequencerInv_hsPoll rfl).2 (by simp [hcrit])
  case pollBusBusy hr hp he =>
    obtain ⟨hcrit, hout, hoe, _⟩ := (sequencerInv_hsPoll hp).1 h
    exact sequencerInv_raise hcrit hout (by simpa using hoe)
  case pollHigh hr hp he hl =>
    obtain ⟨hcrit, _, hoe, hdone⟩ := (sequencerInv_hsPoll hp).1 h
    exact (sequencerInv_wakeHold rfl).2 (by simp [hcrit, hoe, hdone])
  case wakeEnd hr hp he =>
    obtain ⟨_, _, hoe, hdone⟩ := (sequencerInv_wakeHold hp).1 h
    exact (sequencerInv_capRelease rfl).2 (by simp [hoe, hdone])
  case release hr hp =>
    obtain ⟨hcrit, hout, _, hdone⟩ := (sequencerInv_capRelease hp).1 h
    exact (sequencerInv_capture rfl).2 (by simp [hcrit, hout, hdone])
  case gapTimeout hr hp last hl he =>
    obtain ⟨_, hout, hoe, hdone, hn⟩ := (sequencerInv_capture hp).1 h
    exact (sequencerInv_finish rfl).2 ⟨rfl, hout, hoe, hdone, hn.trans (by decide)⟩
  case noEdge hr hp last hl he hf hn => exact h
  case noEdgeAtFullCount hr hp last hl he hf hn =>
    have := h.countInRange hp
    omega
  case edge hr hp last hl he hv hi hn =>
    obtain ⟨hcrit, hout, hoe, hdone, _⟩ := (sequencerInv_capture hp).1 h
    refine (sequencerInv_capture (by simpa using hp)).2 ⟨hcrit, hout, hoe, hdone, ?_⟩
    rw [State.setPrev_n, State.recorded_count]
    omega
  case lastEdge hr hp last hl he hv hi hn =>
    obtain ⟨_, hout, hoe, hdone, _⟩ := (sequencerInv_capture hp).1 h
    refine (sequencerInv_finish rfl).2 ⟨rfl, hout, hoe, hdone, ?_⟩
    rw [State.leaveCapture_n, State.setPrev_n, State.recorded_count]
    omega
  case syncTimeout hr hp hn | dataTimeout hr hp h1 h2 | mismatch hr hp hn hc =>
    obtain ⟨hcrit, hout, hoe, _⟩ := (sequencerInv_finish hp).1 h
    exact sequencerInv_raise hcrit hout (by simpa using hoe)
  case success hr hp hn hc =>
    obtain ⟨hcrit, hout, hoe, _⟩ := (sequencerInv_finish hp).1 h
    exact (sequencerInv_idle rfl).2 (by simp [hcrit, hout, hoe])

/-- Settles O40: the invariant keeps the count in range, and then there is a case for the step. -/
theorem invariantStatesNeverStop : Obligations.InvariantStatesNeverStop := fun _ h =>
  let ⟨s', hs⟩ := exists_stepCase h.countInRange
  ⟨s', step_of_stepCase hs⟩

/-- Settles O38: IDLE after reset, with no port write recorded. -/
theorem resetStateMeetsTheInvariants : Obligations.ResetStateMeetsTheInvariants :=
  ⟨(sequencerInv_idle rfl).2 ⟨rfl, rfl, rfl⟩, fun h => absurd h (by decide), rfl, List.nil_suffix⟩

/-! ### The transition table and the end of a read -/

/-- The phase after a step that is no reset step is the table's. -/
theorem phase_of_stepCase {s s' : State} (h : StepCase s s') (hr : s.inp.rst = false) (hcount : CountInRange s) :
    s'.phase = tableNextPhase s := by
  cases h with
  | reset hr' => simp [hr] at hr'
  | nop _ hp hs => simp [tableNextPhase, hp, hs]
  | read _ hp hs => simp [tableNextPhase, hp, hs]
  | pollBusBusy _ hp he => simp [tableNextPhase, hp, he]
  | pollHigh _ hp he hl => simp [tableNextPhase, hp, not_lt.2 he, hl]
  | pollLow _ hp he hl => simp [tableNextPhase, hp, not_lt.2 he, hl]
  | wakeEnd _ hp he => simp [tableNextPhase, hp, he]
  | wakeStay _ hp he => simp [tableNextPhase, hp, not_le.2 he]
  | release _ hp => simp [tableNextPhase, hp]
  | gapTimeout _ hp last hl he => simp [tableNextPhase, hp, hl, he]
  | noEdge _ hp last hl he hf hn => simp [tableNextPhase, hp, hl, not_lt.2 he, hf]
  | noEdgeAtFullCount _ hp last hl he hf hn => exact absurd (hcount hp) (by omega)
  | edge _ hp last hl he hv hi hn => simp [tableNextPhase, hp, hl, not_lt.2 he, hn.ne]
  | lastEdge _ hp last hl he hv hi hn => rw [hn] at hl; simp [tableNextPhase, hp, hl, hn, hv, hi]
  | syncTimeout _ hp | dataTimeout _ hp | success _ hp | mismatch _ hp => simp [tableNextPhase, hp]

/-- Settles O32: there is a case for the step (`exists_stepCase`), and its phase is the table's (`phase_of_stepCase`). -/
theorem phasesFollowTheTransitionTable : Obligations.PhasesFollowTheTransitionTable := by
  intro s h
  refine ⟨fun hr => ⟨_, step_of_reset hr, rfl⟩, fun hr => ?_⟩
  obtain ⟨s', hs⟩ := exists_stepCase h.countInRange
  exact ⟨s', step_of_stepCase hs, phase_of_stepCase hs hr h.countInRange⟩

/-- Settles O44: a read ends in IDLE with `done`, and the invariant says what the ports are then. -/
theorem outputsWhenAReadEnds : Obligations.OutputsWhenAReadEnds := by
  intro s s' h hr hp hs hp'
  have hdone := done_of_readEnd (step_cases hs) hr hp hp'
  obtain ⟨hcrit, hout, hoe⟩ := (sequencerInv_idle hp').1 (everyStepKeepsTheSequencerInvariant s s' h hs)
  exact ⟨hdone, hcrit, hout, by simp [hoe, hdone]⟩

/-- `done` rises only where a read ends. -/
theorem readEnd_of_done_rises {s s' : State} (h : SequencerInv s) (hs : step s = .next s') (hr : s.inp.rst = false)
    (hd : s.done = false) (hd' : s'.done = true) : s.phase ≠ .idle ∧ s'.phase = .idle := by
  have hidle' : s'.phase = .idle := by
    obtain ⟨_, _, _, hbusy, _⟩ := everyStepKeepsTheSequencerInvariant s s' h hs
    by_contra hne
    simp [hbusy hne] at hd'
  refine ⟨fun hp => ?_, hidle'⟩
  cases hst : s.inp.start
  · obtain rfl := (step_cases hs).unique (.nop hr hp hst)
    simp [hd] at hd'
  · obtain rfl := (step_cases hs).unique (.read hr hp hst)
    simp at hd'

/-- Settles O45: a read ends with `done` (`done_of_readEnd`), which rises there only (`readEnd_of_done_rises`); where it
ends decides the outcome (`readEnd_cases`). -/
theorem outcomeIsDecidedByWhereTheReadEnds : Obligations.OutcomeIsDecidedByWhereTheReadEnds := by
  intro s s' h hs hr
  refine ⟨⟨fun ⟨hp, hp'⟩ => ?_, fun ⟨hd, hd'⟩ => readEnd_of_done_rises h hs hr hd hd'⟩, fun hp hp' => ?_⟩
  · obtain ⟨_, _, _, hbusy, _⟩ := h
    exact ⟨hbusy hp, done_of_readEnd (step_cases hs) hr hp hp'⟩
  obtain ⟨hph, rfl⟩ | ⟨hph, hn, rfl⟩ | ⟨hph, hn, rfl⟩ := readEnd_cases (step_cases hs) hr hp hp'
  · exact .inl ⟨hph, rfl, rfl⟩
  · by_cases h0 : s.n = 0
    · exact .inr (.inl ⟨hph, h0, rfl, by rw [State.advance_resKind, State.raise_resKind, h0, timeoutKind_zero]⟩)
    · have hpos : s.n.toNat ≠ 0 := fun hz => h0 (BitVec.eq_of_toNat_eq hz)
      exact .inr (.inr (.inl ⟨hph, by omega, hn, rfl, timeoutKind_of_pos (by omega)⟩))
  · obtain ⟨_, _, _, _, hmax⟩ := (sequencerInv_finish hph).1 h
    have h42 : s.n = 42 := BitVec.eq_of_toNat_eq (show s.n.toNat = 42 by omega)
    obtain ⟨hc, e⟩ | ⟨hc, e⟩ := s.consumeFrame_cases (capturedFrame s.t) <;> rw [e]
    · exact .inr (.inr (.inr (.inr ⟨hph, h42, hc, rfl⟩)))
    · exact .inr (.inr (.inr (.inl ⟨hph, h42, hc, rfl, rfl⟩)))

/-! ### The recorded gaps -/

/-- A step that leaves the record as it is keeps the gaps, if the record was one before. -/
theorem GapInv.of_same_record {s s' : State} (h : GapInv s) (hp : s.phase = .capture) (ht : s'.t = s.t)
    (hn : s'.n = s.n) : GapInv s' := by
  intro _ i a b hi ha hb
  rw [hn] at hi
  rw [State.slot_congr ht] at ha hb
  exact h (.inl hp) i a b hi ha hb

/-- A transition recorded inside the gap window keeps the gaps: the new gap is the one the window tested. -/
theorem GapInv.of_recorded {s s' : State} {last : Word} (h : GapInv s) (hp : s.phase = .capture)
    (hl : s.slot s.n.toNat = some last) (he : (elapsed s.inp.now last).toNat ≤ 20000)
    (hlt : s.n.toNat + 1 < 43) (ht : s'.t = (s.recorded hlt).t) (hn : s'.n = (s.recorded hlt).n) : GapInv s' := by
  intro _ i a b hi ha hb
  rw [hn, State.recorded_count] at hi
  rw [State.slot_congr ht, State.slot_recorded] at ha hb
  rw [if_neg (by omega)] at ha
  by_cases hnew : i = s.n.toNat
  · subst hnew
    rw [if_pos rfl] at hb
    obtain rfl : last = a := by simpa [hl] using ha
    obtain rfl : s.inp.now = b := by simpa using hb
    exact he
  · rw [if_neg (by omega)] at hb
    exact h (.inl hp) i a b (by omega) ha hb

/-- Outside the two capture phases there is no record to speak of. -/
theorem gapInv_of_phase {s : State} (hc : s.phase ≠ .capture) (hf : s.phase ≠ .finish) : GapInv s :=
  fun h => (h.elim hc hf).elim

/-- Settles O41: a new gap is one the window tested (`GapInv.of_recorded`); elsewhere the record is kept, empty, or of no
account. -/
theorem everyStepKeepsRecordedGapsInTheWindow : Obligations.EveryStepKeepsRecordedGapsInTheWindow := by
  intro s s' h hs
  cases step_cases hs with
  | reset | read | pollBusBusy | pollHigh | wakeEnd | syncTimeout | dataTimeout | success | mismatch =>
    exact gapInv_of_phase (by simp) (by simp)
  | nop | pollLow | wakeStay => exact h
  | release =>
    intro _ i a b hi
    simp at hi
  | gapTimeout _ hp | noEdge _ hp | noEdgeAtFullCount _ hp => exact h.of_same_record hp (by simp) (by simp)
  | edge _ hp last hl he | lastEdge _ hp last hl he => exact h.of_recorded hp hl he (by omega) (by simp) (by simp)

/-! ### The record of port writes -/

/-- The port writes of a step that is no reset step, by the phases before and after it. -/
def phaseWrites : Phase → Phase → List PortWrite
  | .idle, .hsPoll => [.lineOe true, .lineOut true, .done false]
  | .hsPoll, .wakeHold => [.lineOut false]
  | .hsPoll, .idle => [.done true]
  | .wakeHold, .capRelease => [.crit true, .lineOut true]
  | .capRelease, .capture => [.lineOe false]
  | .capture, .finish => [.crit false]
  | .finish, .idle => [.done true]
  | _, _ => []

/-- The writes a step records are those of its phases. -/
theorem writes_of_stepCase {s s' : State} (h : StepCase s s') (hr : s.inp.rst = false) :
    Writes s s' (phaseWrites s.phase s'.phase) := by
  cases h with
  | reset hr' => simp [hr] at hr'
  | nop _ hp | read _ hp | pollBusBusy _ hp | pollHigh _ hp | pollLow _ hp | wakeEnd _ hp | wakeStay _ hp
    | release _ hp | gapTimeout _ hp | noEdge _ hp | noEdgeAtFullCount _ hp | edge _ hp | lastEdge _ hp
    | syncTimeout _ hp | dataTimeout _ hp | success _ hp | mismatch _ hp => simp [Writes, phaseWrites, hp]

/-- The ports after a step are those before it with the writes of its phases seen. -/
theorem portView_of_stepCase {s s' : State} (h : StepCase s s') (hr : s.inp.rst = false) :
    ((phaseWrites s.phase s'.phase).map (PortEvent.mk s.tick)).foldl PortView.see (portView s) = portView s' := by
  cases h with
  | reset hr' => simp [hr] at hr'
  | nop _ hp | read _ hp | pollBusBusy _ hp | pollHigh _ hp | pollLow _ hp | wakeEnd _ hp | wakeStay _ hp
    | release _ hp | gapTimeout _ hp | noEdge _ hp | noEdgeAtFullCount _ hp | edge _ hp | lastEdge _ hp
    | syncTimeout _ hp | dataTimeout _ hp | success _ hp | mismatch _ hp =>
    simp [phaseWrites, hp, portView, PortView.see]

/-- A step that stays in a read or begins one carries the read's writes on by those of its phases. -/
theorem readTrace_of_stepCase {s s' : State} (h : StepCase s s') (hr : s.inp.rst = false)
    (hp' : s'.phase ≠ .idle) : readTrace s'.phase = readTrace s.phase ++ phaseWrites s.phase s'.phase := by
  cases h with
  | reset hr' => simp [hr] at hr'
  | pollBusBusy | syncTimeout | dataTimeout | success | mismatch => simp at hp'
  | nop _ hp | read _ hp | pollHigh _ hp | pollLow _ hp | wakeEnd _ hp | wakeStay _ hp | release _ hp
    | gapTimeout _ hp | noEdge _ hp | noEdgeAtFullCount _ hp | edge _ hp | lastEdge _ hp =>
    simp [phaseWrites, readTrace, hp]

/-- A step that ends a read writes `done` and nothing else. -/
theorem phaseWrites_of_readEnd {s s' : State} (h : StepCase s s') (hr : s.inp.rst = false) (hp : s.phase ≠ .idle)
    (hp' : s'.phase = .idle) : phaseWrites s.phase s'.phase = [.done true] := by
  obtain ⟨hph, _⟩ | ⟨hph, _⟩ | ⟨hph, _⟩ := readEnd_cases h hr hp hp' <;> rw [hph, hp', phaseWrites]

/-- Settles O42: a step appends the writes of its phases (`writes_of_stepCase`) and its ports follow them
(`portView_of_stepCase`); a reset step writes all four ports. -/
theorem everyStepKeepsThePortsAsWritten : Obligations.EveryStepKeepsThePortsAsWritten := by
  intro s s' h hs
  cases hr : s.inp.rst
  · rw [ReplayInv, writes_of_stepCase (step_cases hs) hr, List.foldl_append, h]
    exact portView_of_stepCase (step_cases hs) hr
  · obtain rfl := (step_cases hs).unique (.reset hr)
    rw [ReplayInv, State.advance_events, State.resetStep_events, List.foldl_append]
    simp [PortView.see, portView]

/-- The writes of a step follow those of the running read. -/
theorem TraceInv.append_writes {s s' : State} {ws : List PortWrite} (h : TraceInv s) (hw : Writes s s' ws) :
    readTrace s.phase ++ ws <:+ s'.events.map PortEvent.write := by
  obtain ⟨earlier, he⟩ := h
  refine ⟨earlier, ?_⟩
  rw [hw, List.map_append, ← he]
  simp [Function.comp_def]

/-- Settles O43: the writes of a step stand after those of the read so far (`TraceInv.append_writes`), and together they
are those of the next phase (`readTrace_of_stepCase`), or of a read that ends (`phaseWrites_of_readEnd`). -/
theorem everyStepKeepsTheOrderOfPortWrites : Obligations.EveryStepKeepsTheOrderOfPortWrites := by
  intro s s' h hs
  have hcase := step_cases hs
  refine ⟨?_, fun hr hp hp' => ?_⟩
  · by_cases hp' : s'.phase = .idle
    · rw [TraceInv, hp']
      exact List.nil_suffix
    · cases hr : s.inp.rst
      · rw [TraceInv, readTrace_of_stepCase hcase hr hp']
        exact h.append_writes (writes_of_stepCase hcase hr)
      · obtain rfl := (step_cases hs).unique (.reset hr)
        exact absurd rfl hp'
  · rw [← phaseWrites_of_readEnd hcase hr hp hp']
    exact h.append_writes (writes_of_stepCase hcase hr)

end Sys2Proof.Machine
end

section
/-!
What a step does not look at: the command outside IDLE, the level of the line outside HS_POLL and CAPTURE
(`40_handshake.md`, `20_memory.md` section 2). Then the words of the opcode table placed for the next step (log entries 15,
18).
-/
namespace Sys2Proof.Machine

/-! ### The same registers at another sample -/

/-- The same registers at another sample of the input ports. -/
def State.withInputs (s : State) (a : Inputs) : State := { s with inp := a }

@[simp] theorem State.withInputs_inp (s : State) (a : Inputs) : (s.withInputs a).inp = a := rfl
@[simp] theorem State.withInputs_tRef (s : State) (a : Inputs) : (s.withInputs a).tRef = s.tRef := rfl
@[simp] theorem State.withInputs_prev (s : State) (a : Inputs) : (s.withInputs a).prev = s.prev := rfl
@[simp] theorem State.withInputs_n (s : State) (a : Inputs) : (s.withInputs a).n = s.n := rfl
@[simp] theorem State.slot_withInputs (s : State) (a : Inputs) (i : Nat) : (s.withInputs a).slot i = s.slot i := rfl

theorem State.recorded_withInputs {s : State} {a : Inputs} (hn : a.now = s.inp.now) (h : s.n.toNat + 1 < 43) :
    (s.withInputs a).recorded h = (s.recorded h).withInputs a := by
  simp [State.recorded, State.withInputs, hn]

theorem State.afterSample_withInputs {s : State} {a : Inputs} (hl : a.lineIn = s.inp.lineIn) :
    (s.withInputs a).afterSample = s.afterSample.withInputs a := by
  by_cases hn : s.n.toNat = 42
  · rw [State.afterSample_of_full (s := s.withInputs a) hn, State.afterSample_of_full hn, ← hl]; rfl
  · rw [State.afterSample_of_ne (s := s.withInputs a) hn, State.afterSample_of_ne hn, ← hl]; rfl

theorem State.consumeFrame_withInputs (s : State) (a : Inputs) (f : Frame) :
    (s.withInputs a).consumeFrame f = (s.consumeFrame f).withInputs a := by
  simp only [State.consumeFrame]
  split <;> rfl

/-- CAPTURE looks at `now` and the level of the sample only. -/
theorem exec_capture_withInputs {s : State} {a : Inputs} (hn : a.now = s.inp.now) (hl : a.lineIn = s.inp.lineIn) :
    exec .capture (s.withInputs a) = mapNext (State.withInputs · a) (exec .capture s) := by
  cases hs : s.slot s.n.toNat with
  | none =>
    have h43 := (s.slot_eq_none_iff _).1 hs
    rw [exec_capture_of_noSlot h43, exec_capture_of_noSlot (s := s.withInputs a) h43]; rfl
  | some last =>
    have hs' : (s.withInputs a).slot (s.withInputs a).n.toNat = some last := hs
    by_cases he : 20000 < (elapsed s.inp.now last).toNat
    · rw [exec_capture_of_timeout hs he, exec_capture_of_timeout hs' (by simpa [hn] using he)]; rfl
    have he' := not_lt.1 he
    by_cases hf : s.prev = true ∧ s.inp.lineIn = false
    · obtain ⟨hv, hi⟩ := hf
      by_cases h42 : s.n.toNat + 1 < 43
      · rw [exec_capture_of_edge hs he' hv hi h42,
          exec_capture_of_edge hs' (by simpa [hn] using he') hv (by simpa [hl] using hi) h42,
          State.recorded_withInputs hn, State.afterSample_withInputs (s := s.recorded h42) hl]; rfl
      · have hlt := State.lt_of_slot hs
        have hfull : s.n.toNat = 42 := by omega
        rw [exec_capture_of_edge_full hs he' hv hi hfull,
          exec_capture_of_edge_full hs' (by simpa [hn] using he') hv (by simpa [hl] using hi) hfull]; rfl
    · rw [exec_capture_of_noEdge hs he' hf,
        exec_capture_of_noEdge hs' (by simpa [hn] using he') (by simpa [hl] using hf),
        State.afterSample_withInputs hl]; rfl

/-- An operation looks at `now`, and only HS_POLL and CAPTURE look at the level of the line. -/
theorem exec_withInputs {i : Instr} {s : State} {a : Inputs} (hn : a.now = s.inp.now)
    (hl : i = .hsPoll ∨ i = .capture → a.lineIn = s.inp.lineIn) :
    exec i (s.withInputs a) = mapNext (State.withInputs · a) (exec i s) := by
  cases i with
  | nop v => rfl
  | read v => simp only [exec_read, State.withInputs_inp, hn]; rfl
  | hsPoll =>
    have hlevel := hl (.inl rfl)
    by_cases he : 250 < (elapsed s.inp.now s.tRef).toNat
    · rw [exec_hsPoll_of_closed he, exec_hsPoll_of_closed (by simpa [hn] using he)]; rfl
    · rw [exec_hsPoll_of_open (not_lt.1 he), exec_hsPoll_of_open (by simpa [hn] using not_lt.1 he)]
      simp only [State.withInputs_inp, hn, hlevel]
      cases s.inp.lineIn <;> rfl
  | wakeHold =>
    by_cases he : 2000 ≤ (elapsed s.inp.now s.tRef).toNat
    · rw [exec_wakeHold_of_run he, exec_wakeHold_of_run (by simpa [hn] using he)]; rfl
    · rw [exec_wakeHold_of_lt (not_le.1 he), exec_wakeHold_of_lt (by simpa [hn] using not_le.1 he)]; rfl
  | capRelease => simp only [exec_capRelease, State.withInputs_inp, hn]; rfl
  | capture => exact exec_capture_withInputs hn (hl (.inr rfl))
  | finish =>
    by_cases h42 : s.n.toNat ≤ 41
    · rw [exec_finish_of_incomplete h42, exec_finish_of_incomplete (by simpa using h42)]; rfl
    · rw [exec_finish_of_complete (s := s) (by omega),
        exec_finish_of_complete (s := s.withInputs a) (not_le.1 h42)]
      rw [State.consumeFrame_withInputs]; rfl
  | frame f => rw [exec_frame, exec_frame, State.consumeFrame_withInputs]; rfl

/-- The next sample is a listed one, or is drawn from `now` and `variant` of this one. -/
theorem nextSample_withInputs {t : State} {a : Inputs} (hn : a.now = t.inp.now)
    (hnext : t.pending ≠ [] ∨ a.variant = t.inp.variant) : (t.withInputs a).nextSample = t.nextSample := by
  cases hp : t.pending with
  | cons p l => rw [t.nextSample_cons p l hp, State.nextSample_cons (t.withInputs a) p l hp]
  | nil =>
    have hv := hnext.resolve_left (not_not.2 hp)
    rw [t.nextSample_nil hp, State.nextSample_nil (t.withInputs a) hp, State.drawSample, State.drawSample,
      State.withInputs_inp, hv, hn]
    rfl

theorem advance_withInputs {t : State} {a : Inputs} (hn : a.now = t.inp.now)
    (hnext : t.pending ≠ [] ∨ a.variant = t.inp.variant) : (t.withInputs a).advance = t.advance := by
  rw [State.advance, nextSample_withInputs hn hnext]
  rfl

/-- A sample that differs in nothing the step looks at, and nothing the next sample is drawn from, gives the same step. -/
theorem step_withInputs {s : State} {a : Inputs} (hr : a.rst = s.inp.rst) (hn : a.now = s.inp.now)
    (hfetch : s.inp.rst = false → (s.withInputs a).fetch = s.fetch)
    (hl : s.inp.rst = false → s.fetch = .hsPoll ∨ s.fetch = .capture → a.lineIn = s.inp.lineIn)
    (hnext : s.pending ≠ [] ∨ a.variant = s.inp.variant) : step (s.withInputs a) = step s := by
  have hadv (t : State) (hinp : t.inp = s.inp) (hpend : t.pending = s.pending) :
      (t.withInputs a).advance = t.advance :=
    advance_withInputs (hinp ▸ hn) (hinp ▸ hpend ▸ hnext)
  cases hrst : s.inp.rst
  · rw [step_of_noReset (hr.trans hrst), hfetch hrst, exec_withInputs hn (hl hrst), step_of_noReset hrst]
    cases he : exec s.fetch s with
    | next t =>
      obtain ⟨hinp, hpend, _⟩ := exec_keeps_inputs he
      simp [hadv t hinp hpend]
    | fault r => rfl
    | refused r => rfl
  · rw [step_of_reset hrst, step_of_reset (hr.trans hrst), ← hadv s.resetStep rfl rfl]; rfl

/-- Outside IDLE the phase alone selects the operation. -/
theorem fetch_of_busy {s : State} (hp : s.phase ≠ .idle) (cmd : BitVec 2) : s.fetch = decodePhase s.phase cmd := by
  rw [State.fetch]
  cases hph : s.phase with
  | idle => exact absurd hph hp
  | _ => rfl

/-- Settles O33: outside IDLE the command selects nothing (`fetch_of_busy`), and the next sample is a listed one. -/
theorem commandIsIgnoredWhileBusy : Obligations.CommandIsIgnoredWhileBusy := by
  intro s start v hp hpend
  exact step_withInputs (a := { s.inp with start := start, variant := v }) rfl rfl
    (fun _ => (fetch_of_busy hp _).symm) (fun _ _ => rfl) (.inl hpend)

/-- The phases whose operations look at the level of the line. -/
theorem phase_of_fetch (s : State) :
    (s.fetch = .hsPoll → s.phase = .hsPoll) ∧ (s.fetch = .capture → s.phase = .capture) := by
  rw [fetch_cases]
  cases s.phase with
  | idle => cases s.inp.start <;> simp
  | _ => simp

/-- Settles O34: in the other phases, and at a reset step, nothing looks at the level (`step_withInputs`). -/
theorem lineIsReadOnlyInHsPollAndCapture : Obligations.LineIsReadOnlyInHsPollAndCapture := by
  refine ⟨fun _ _ _ => rfl, fun s level h => ?_⟩
  refine step_withInputs (a := { s.inp with lineIn := level }) rfl rfl (fun _ => rfl) (fun hr hf => ?_) (.inr rfl)
  obtain hrst | ⟨hpoll, hcap⟩ := h
  · simp [hr] at hrst
  · obtain ⟨fpoll, fcap⟩ := phase_of_fetch s
    exact absurd (hf.imp fpoll fcap) (by simp [hpoll, hcap])

/-! ### A complete record of a frame carries that frame -/

theorem frameOnesBefore_succ (f : Frame) (k : Nat) :
    frameOnesBefore f (k + 1) = frameOnesBefore f k + (f.word.getLsbD (39 - k)).toNat := by
  cases hb : f.word.getLsbD (39 - k) <;> simp [frameOnesBefore, List.range_succ, List.filter_append, hb]

/-- Frame bit `f[j]` of the record of `f` is `f`'s own: the transitions around a 1 stand T_BIT apart, those around a 0
together. -/
theorem frameBit_frameRecord (f : Frame) (j : Fin 40) :
    frameBit (frameRecord f) j = f.word.getLsbD (39 - j.val) := by
  have hlater : min (j.val + 2 - 1) 40 = j.val + 1 := by omega
  have hearlier : min (j.val + 1 - 1) 40 = j.val := by omega
  rw [Bool.eq_iff_iff, frameBit_iff]
  simp only [frameRecord, Vector.getElem_ofFn, hlater, hearlier, frameOnesBefore_succ, Nat.mul_add]
  cases f.word.getLsbD (39 - j.val)
  · rw [elapsed_ofNat_add_toNat _ _ (by decide)]; decide
  · rw [elapsed_ofNat_add_toNat _ _ (by decide)]; decide

/-- Packing the bits of a frame's 40-bit number gives the frame back. -/
theorem packFrame_word (f : Frame) : packFrame (fun j => f.word.getLsbD (39 - j.val)) = f := by
  have hbyte (k : Fin 5) : pack (fun j => f.word.getLsbD (39 - j.val)) k = frameByte f k := by
    refine BitVec.eq_of_getLsbD_eq fun p hp => ?_
    have hbit := pack_getLsbD (fun j => f.word.getLsbD (39 - j.val)) k ⟨7 - p, by omega⟩
    have hpos : 39 - (8 * k.val + (7 - p)) = p + 8 * (4 - k.val) := by omega
    have hsame : 7 - (7 - p) = p := by omega
    simp only [hsame, hpos] at hbit
    rw [hbit, word_getLsbD_frameByte f k p hp]
  rw [packFrame, hbyte, hbyte, hbyte, hbyte, hbyte]; rfl

theorem capturedFrame_frameRecord (f : Frame) : capturedFrame (frameRecord f) = f := by
  rw [capturedFrame, funext (frameBit_frameRecord f), packFrame_word]

/-! ### Placed operations -/

theorem State.placeOp_rst (s : State) (p : Phase) (cmd : BitVec 2) : (s.placeOp p cmd).inp.rst = false := by
  cases p <;> rfl

/-- The operation placed is the one the phase and the command select. -/
theorem State.fetch_placeOp (s : State) (p : Phase) (cmd : BitVec 2) :
    (s.placeOp p cmd).fetch = decodePhase p cmd := by
  rw [fetch_cases]
  cases p <;> rfl

/-- No phase selects the FRAME row, a data format (log entry 15). -/
theorem decodePhase_ne_frame (p : Phase) (cmd : BitVec 2) (f : Frame) : decodePhase p cmd ≠ .frame f := by
  cases p with
  | idle => rw [decodePhase, decodeCmd]; split <;> simp
  | _ => simp [decodePhase]

/-- All that placing a table word which decodes can do. -/
theorem State.withFetchWord_cases {s : State} {nbits w : Nat} {i : Instr} (h : decodeTableWord nbits w = some i) :
    (∃ p cmd, decodePhase p cmd = i ∧ s.withFetchWord nbits w = s.placeOp p cmd) ∨
    (∃ f, i = .frame f ∧ s.withFetchWord nbits w = s.placeFrame f) := by
  rw [State.withFetchWord, h]
  cases i with
  | nop v => exact .inl ⟨.idle, cmdWord v false, decodeCmd_cmdWord v false, rfl⟩
  | read v => exact .inl ⟨.idle, cmdWord v true, decodeCmd_cmdWord v true, rfl⟩
  | hsPoll => exact .inl ⟨.hsPoll, 0, rfl, rfl⟩
  | wakeHold => exact .inl ⟨.wakeHold, 0, rfl, rfl⟩
  | capRelease => exact .inl ⟨.capRelease, 0, rfl, rfl⟩
  | capture => exact .inl ⟨.capture, 0, rfl, rfl⟩
  | finish => exact .inl ⟨.finish, 0, rfl, rfl⟩
  | frame f => exact .inr ⟨f, rfl, rfl⟩

/-- The record placed for a frame is complete and carries that frame, so FINISH runs as the frame. -/
theorem exec_finish_placeFrame (s : State) (f : Frame) :
    exec .finish (s.placeFrame f) = exec (.frame f) (s.placeFrame f) := by
  obtain ⟨_, hsame⟩ := frameIsConsumedAsFinishConsumesIt f (s.placeFrame f)
  exact hsame (show 42 ≤ (42 : Count).toNat by decide) (capturedFrame_frameRecord f)

/-- Settles O31: an operation placed is fetched (`fetch_placeOp`); a frame placed is one that FINISH consumes
(`exec_finish_placeFrame`). -/
theorem placedWordsRunNext : Obligations.PlacedWordsRunNext := by
  intro s nbits w i h s0 hs0
  have hrun (hr : s0.inp.rst = false) (he : exec s0.fetch s0 = exec i s0) :
      step s0 = match exec i s0 with
        | .next s' => .next s'.advance
        | .fault r => .fault r
        | .refused r => .refused r := by
    rw [step_of_noReset hr, he]
    cases exec i s0 <;> rfl
  obtain ⟨p, cmd, hi, e⟩ | ⟨f, rfl, e⟩ := State.withFetchWord_cases (s := s) h <;> rw [e] at hs0 <;> subst hs0
  · refine ⟨hrun (s.placeOp_rst p cmd) (by rw [State.fetch_placeOp, hi]), fun f hf => ?_⟩
    exact absurd (hi.trans hf) (decodePhase_ne_frame p cmd f)
  · refine ⟨hrun rfl (exec_finish_placeFrame s f), fun g hg => ?_⟩
    cases hg
    exact ⟨rfl, rfl, capturedFrame_frameRecord f⟩

end Sys2Proof.Machine
end

section
/-!
A register that the running read has not written decides nothing (`10_state.md` section 8): two states that agree on the
live registers step alike, so two reads over the same samples go alike.
-/
namespace Sys2Proof.Machine

/-! ### Agreement of two states -/

theorem liveEq_of_idle {a b : State} (ha : a.phase = .idle) (hb : b.phase = .idle) : LiveEq a b := by
  simp [LiveEq, ha, hb]

theorem resultEq_raise (a b : State) (k : ErrorKind) : ResultEq (a.raise k) (b.raise k) :=
  ⟨rfl, fun _ => rfl, fun h => absurd h (by simp)⟩

/-- The meaningful result depends on the result registers alone. -/
theorem ResultEq.of_sameResult {a b a' b' : State} (h : ResultEq a b) (ha : SameResult a a')
    (hb : SameResult b b') : ResultEq a' b' := by
  obtain ⟨hok, hkind, htemp, hhum⟩ := ha
  obtain ⟨hok', hkind', htemp', hhum'⟩ := hb
  simpa only [ResultEq, hok, hkind, htemp, hhum, hok', hkind', htemp', hhum'] using h

/-- Two states show the host the same, as far as it means something: the line, `done`, and the result when `done` is 1. -/
def SameShown (a b : State) : Prop :=
  a.done = b.done ∧ SameLine b a ∧ (a.done = true → ResultEq a b)

/-- What two steps of the same operation, neither of which ends a read or begins one, do to the ports. -/
theorem SameShown.of_same_writes {a b a' b' : State} (h : SameShown a b)
    (hdone : a'.done = a.done ∧ b'.done = b.done) (hline : SameLine b a → SameLine b' a')
    (ha : SameResult a a') (hb : SameResult b b') : SameShown a' b' := by
  obtain ⟨hd, hl, hres⟩ := h
  obtain ⟨ha', hb'⟩ := hdone
  refine ⟨by rw [ha', hb', hd], hline hl, fun hd' => ?_⟩
  exact (hres (ha' ▸ hd')).of_sameResult ha hb

/-- The step of `b` that follows the step from `a` to `a'`: it keeps the agreement on live registers and on what is shown,
and a read that ends, ends with the same meaningful result. -/
def FollowedBy (a b a' : State) : Prop :=
  ∃ b', StepCase b b' ∧ LiveEq a' b' ∧ (SameShown a b → SameShown a' b') ∧
    (a.inp.rst = false → a.phase ≠ .idle → a'.phase = .idle → ResultEq a' b')

/-- A step that stays in a read. That it writes the ports of both states alike is read off the two next states. -/
theorem FollowedBy.of_busy {a b a' b' : State} (hs : StepCase b b') (hl : LiveEq a' b') (hp : a'.phase ≠ .idle)
    (hdone : a'.done = a.done ∧ b'.done = b.done := by simp)
    (hline : SameLine b a → SameLine b' a' := by simp +contextual [SameLine])
    (ha : SameResult a a' := by simp [SameResult]) (hb : SameResult b b' := by simp [SameResult]) :
    FollowedBy a b a' :=
  ⟨b', hs, hl, fun hsh => hsh.of_same_writes hdone hline ha hb, fun _ _ hp' => absurd hp' hp⟩

/-- A step that ends a read. -/
theorem FollowedBy.of_end {a b a' b' : State} (hs : StepCase b b') (hp : a'.phase = .idle ∧ b'.phase = .idle)
    (hdone : a'.done = true ∧ b'.done = true) (ha : SameLine a a') (hb : SameLine b b') (hres : ResultEq a' b') :
    FollowedBy a b a' := by
  refine ⟨b', hs, liveEq_of_idle hp.1 hp.2, fun ⟨_, hl, _⟩ => ?_, fun _ _ _ => hres⟩
  obtain ⟨hoe, hout⟩ := hl
  obtain ⟨hoea, houta⟩ := ha
  obtain ⟨hoeb, houtb⟩ := hb
  exact ⟨hdone.1.trans hdone.2.symm, ⟨by rw [hoea, hoeb, hoe], by rw [houta, houtb, hout]⟩, fun _ => hres⟩

/-- A failure of the same kind. -/
theorem FollowedBy.of_raise {a b : State} (k : ErrorKind) (hs : StepCase b (b.raise k).advance) :
    FollowedBy a b (a.raise k).advance :=
  .of_end hs ⟨rfl, rfl⟩ ⟨rfl, rfl⟩ ⟨rfl, rfl⟩ ⟨rfl, rfl⟩ (resultEq_raise a b k)

/-! ### The step of a state with the same live registers -/

/-- With a complete record every slot is live. -/
theorem record_eq_of_live {a b : State} (hn : 42 ≤ a.n.toNat) (h : ∀ i, i ≤ a.n.toNat → a.slot i = b.slot i) :
    a.t = b.t := by
  refine Vector.ext fun i hi => ?_
  have hslot := h i (by omega)
  rwa [a.slot_of_lt i hi, b.slot_of_lt i hi, Option.some_inj] at hslot

/-- A recorded transition is live in both records. -/
theorem slot_recorded_congr {a b : State} (hinp : a.inp = b.inp) (hn : a.n = b.n)
    (hslot : ∀ i, i ≤ a.n.toNat → a.slot i = b.slot i) (ha : a.n.toNat + 1 < 43) :
    (a.recorded ha).n = (b.recorded (hn ▸ ha)).n ∧
      ∀ i, i ≤ (a.recorded ha).n.toNat → (a.recorded ha).slot i = (b.recorded (hn ▸ ha)).slot i := by
  refine ⟨congrArg (· + 1) hn, fun i hi => ?_⟩
  rw [State.recorded_count] at hi
  rw [State.slot_recorded, State.slot_recorded, ← hn, hinp]
  split
  · rfl
  · exact hslot i (by omega)

/-- A state with the same live registers, at the same sample, follows every step. -/
theorem followedBy_of_liveEq {a b a' : State} (hl : LiveEq a b) (hinp : a.inp = b.inp) (h : StepCase a a') :
    FollowedBy a b a' := by
  obtain ⟨hph, href, hvar, hprev, hrec⟩ := id hl
  cases h with
  | reset hr =>
    refine ⟨_, .reset (hinp ▸ hr), liveEq_of_idle rfl rfl, fun _ => ?_, fun hr' => by simp [hr] at hr'⟩
    simp [SameShown, SameLine]
  | nop hr hp hs => exact ⟨_, .nop (hinp ▸ hr) (hph ▸ hp) (hinp ▸ hs), hl, id, fun _ hne => absurd hp hne⟩
  | read hr hp hs =>
    refine ⟨_, .read (hinp ▸ hr) (hph ▸ hp) (hinp ▸ hs), ?_, fun _ => ?_, fun _ hne => absurd hp hne⟩
    · simp [LiveEq, hinp]
    · simp [SameShown, SameLine]
  | pollBusBusy hr hp he =>
    rw [hinp, href (.inl hp)] at he
    exact .of_raise .busBusy (.pollBusBusy (hinp ▸ hr) (hph ▸ hp) he)
  | pollHigh hr hp he hi =>
    rw [hinp, href (.inl hp)] at he
    exact .of_busy (.pollHigh (hinp ▸ hr) (hph ▸ hp) he (hinp ▸ hi)) (by simp [LiveEq, hinp, hvar, hp]) (by simp)
  | pollLow hr hp he hi =>
    rw [hinp, href (.inl hp)] at he
    exact .of_busy (.pollLow (hinp ▸ hr) (hph ▸ hp) he (hinp ▸ hi)) hl (by simp [hp])
  | wakeEnd hr hp he =>
    rw [hinp, href (.inr hp)] at he
    exact .of_busy (.wakeEnd (hinp ▸ hr) (hph ▸ hp) he) (by simp [LiveEq, hvar, hp]) (by simp)
  | wakeStay hr hp he =>
    rw [hinp, href (.inr hp)] at he
    exact .of_busy (.wakeStay (hinp ▸ hr) (hph ▸ hp) he) hl (by simp [hp])
  | release hr hp =>
    exact .of_busy (.release (hinp ▸ hr) (hph ▸ hp))
      (by simp [LiveEq, hvar, hp, hinp, State.slot_storeBaseline]) (by simp)
  | gapTimeout hr hp last hs he =>
    obtain ⟨hn, hslot⟩ := hrec (.inl hp)
    rw [hslot _ le_rfl, hn] at hs
    exact .of_busy (.gapTimeout (hinp ▸ hr) (hph ▸ hp) last hs (hinp ▸ he))
      (by simpa [LiveEq, hvar, hp] using hrec (.inl hp)) (by simp)
  | noEdge hr hp last hs he hf hlt =>
    obtain ⟨hn, hslot⟩ := hrec (.inl hp)
    rw [hslot _ le_rfl, hn] at hs
    rw [hprev hp, hinp] at hf
    exact .of_busy (.noEdge (hinp ▸ hr) (hph ▸ hp) last hs (hinp ▸ he) hf (hn ▸ hlt))
      (by simpa [LiveEq, ← hph, hvar, hp, hinp] using hrec (.inl hp)) (by simp [hp])
  | noEdgeAtFullCount hr hp last hs he hf h42 =>
    obtain ⟨hn, hslot⟩ := hrec (.inl hp)
    rw [hslot _ le_rfl, hn] at hs
    rw [hprev hp, hinp] at hf
    exact .of_busy (.noEdgeAtFullCount (hinp ▸ hr) (hph ▸ hp) last hs (hinp ▸ he) hf (hn ▸ h42))
      (by simpa [LiveEq, hvar, hp] using hrec (.inl hp)) (by simp)
  | edge hr hp last hs he hv hi hlt =>
    obtain ⟨hn, hslot⟩ := hrec (.inl hp)
    have hrec' := slot_recorded_congr hinp hn hslot (by omega)
    rw [hslot _ le_rfl, hn] at hs
    exact .of_busy (.edge (hinp ▸ hr) (hph ▸ hp) last hs (hinp ▸ he) (hprev hp ▸ hv) (hinp ▸ hi) (hn ▸ hlt))
      (by simpa [LiveEq, ← hph, hvar, hp] using hrec') (by simp [hp])
  | lastEdge hr hp last hs he hv hi h41 =>
    obtain ⟨hn, hslot⟩ := hrec (.inl hp)
    have hrec' := slot_recorded_congr hinp hn hslot (by omega)
    rw [hslot _ le_rfl, hn] at hs
    exact .of_busy (.lastEdge (hinp ▸ hr) (hph ▸ hp) last hs (hinp ▸ he) (hprev hp ▸ hv) (hinp ▸ hi) (hn ▸ h41))
      (by simpa [LiveEq, hvar, hp] using hrec') (by simp)
  | syncTimeout hr hp hn =>
    obtain ⟨hnb, _⟩ := hrec (.inr hp)
    exact .of_raise .syncTimeout (.syncTimeout (hinp ▸ hr) (hph ▸ hp) (hnb ▸ hn))
  | dataTimeout hr hp h1 h2 =>
    obtain ⟨hnb, _⟩ := hrec (.inr hp)
    exact .of_raise .dataTimeout (.dataTimeout (hinp ▸ hr) (hph ▸ hp) (hnb ▸ h1) (hnb ▸ h2))
  | success hr hp hn hc =>
    obtain ⟨hnb, hslot⟩ := hrec (.inr hp)
    rw [record_eq_of_live hn hslot] at hc ⊢
    refine .of_end (.success (hinp ▸ hr) (hph ▸ hp) (hnb ▸ hn) hc) ⟨rfl, rfl⟩ ⟨rfl, rfl⟩ ⟨rfl, rfl⟩ ⟨rfl, rfl⟩ ?_
    simp [ResultEq, hvar, hp]
  | mismatch hr hp hn hc =>
    obtain ⟨hnb, hslot⟩ := hrec (.inr hp)
    rw [record_eq_of_live hn hslot] at hc ⊢
    exact .of_end (.mismatch (hinp ▸ hr) (hph ▸ hp) (hnb ▸ hn) hc) ⟨rfl, rfl⟩ ⟨rfl, rfl⟩ ⟨rfl, rfl⟩ ⟨rfl, rfl⟩
      (resultEq_raise (a.setFrame _) (b.setFrame _) _)

/-- Settles O46: the other state has a step that follows (`followedBy_of_liveEq`), and a read that ends shows `done`
(`done_of_readEnd`). -/
theorem onlyLiveRegistersMatter : Obligations.OnlyLiveRegistersMatter := by
  intro a b a' hl hinp hs
  obtain ⟨b', hb, hl', _, hres⟩ := followedBy_of_liveEq hl hinp (step_cases hs)
  refine ⟨b', step_of_stepCase hb, hl', fun hr hp hp' => ?_⟩
  obtain ⟨hph, _⟩ := hl
  obtain ⟨hph', _⟩ := hl'
  exact ⟨done_of_readEnd (step_cases hs) hr hp hp',
    done_of_readEnd hb (hinp ▸ hr) (hph ▸ hp) (hph' ▸ hp'), hres hr hp hp'⟩

/-! ### Whole reads -/

theorem run_zero (s : State) : Host.Core.run core 0 s = .next s := rfl

theorem run_succ_of_step {s t : State} (k : Nat) (h : step s = .next t) :
    Host.Core.run core (k + 1) s = Host.Core.run core k t := by
  have hcore : core.step s = .next t := h
  simp only [Host.Core.run, hcore]

/-- A run that gives a state gives one after its first step. -/
theorem step_of_run_succ {s s' : State} {k : Nat} (h : Host.Core.run core (k + 1) s = .next s') :
    ∃ t, step s = .next t ∧ Host.Core.run core k t = .next s' := by
  cases hs : step s with
  | next t => exact ⟨t, rfl, (run_succ_of_step k hs) ▸ h⟩
  | fault r =>
    have hcore : core.step s = .fault r := hs
    simp [Host.Core.run, hcore] at h
  | refused r =>
    have hcore : core.step s = .refused r := hs
    simp [Host.Core.run, hcore] at h

/-- The next samples of two states with the same list, as long as it lasts. -/
theorem inputs_of_steps {a b a' b' : State} (ha : step a = .next a') (hb : step b = .next b')
    (h : a.pending = b.pending) :
    a'.pending = a.pending.tail ∧ b'.pending = a.pending.tail ∧ (a.pending ≠ [] → a'.inp = b'.inp) := by
  obtain ⟨ta, rfl, _, hta⟩ := step_advances ha
  obtain ⟨tb, rfl, _, htb⟩ := step_advances hb
  refine ⟨by simp [hta], by simp [htb, h], fun hne => ?_⟩
  obtain ⟨p, l, hp⟩ := List.exists_cons_of_ne_nil hne
  rw [State.advance_inp, State.advance_inp, ta.nextSample_cons p l (hta.trans hp),
    tb.nextSample_cons p l (htb.trans (h ▸ hp))]

/-- Over the same listed samples the runs of two states with the same live registers go alike. -/
theorem run_follows (k : Nat) {a b a' : State} (hl : LiveEq a b) (hsh : SameShown a b)
    (hinp : 0 < k → a.inp = b.inp) (hpend : a.pending = b.pending) (hk : k ≤ a.pending.length + 1)
    (hrun : Host.Core.run core k a = .next a') :
    ∃ b', Host.Core.run core k b = .next b' ∧ LiveEq a' b' ∧ SameShown a' b' := by
  induction k generalizing a b with
  | zero =>
    obtain rfl : a = a' := Host.Outcome.next.inj hrun
    exact ⟨b, rfl, hl, hsh⟩
  | succ k ih =>
    obtain ⟨t, hs, hrest⟩ := step_of_run_succ hrun
    obtain ⟨u, hu, hl', hsh', _⟩ := followedBy_of_liveEq hl (hinp k.succ_pos) (step_cases hs)
    obtain ⟨htp, hup, hnext⟩ := inputs_of_steps hs (step_of_stepCase hu) hpend
    rw [run_succ_of_step k (step_of_stepCase hu)]
    have hlen (hpos : 0 < k) : a.pending ≠ [] := List.length_pos_iff.1 (by omega)
    have hk' : k ≤ a.pending.tail.length + 1 := by
      rw [List.length_tail]
      omega
    exact ih hl' (hsh' hsh) (fun hpos => hnext (hlen hpos)) (htp.trans hup.symm) (htp ▸ hk') hrest

/-- Settles O47: after the acceptance of the READ the two states agree on the live registers and on what they show, and
then their runs go alike (`run_follows`). -/
theorem readResultDoesNotDependOnHistory : Obligations.ReadResultDoesNotDependOnHistory := by
  intro a b a' k ha hb hinp hpend hr hst _ hk hrun
  obtain ⟨t, hs, hrest⟩ := step_of_run_succ hrun
  have hread := StepCase.read (s := b) (hinp ▸ hr) hb (hinp ▸ hst)
  obtain ⟨htp, hup, hnext⟩ := inputs_of_steps hs (step_of_stepCase hread) hpend
  obtain rfl := (step_cases hs).unique (.read hr ha hst)
  have hlen (hpos : 0 < k) : a.pending ≠ [] := List.length_pos_iff.1 (hpos.trans_le hk)
  have hk' : k ≤ a.pending.tail.length + 1 := by
    rw [List.length_tail]
    omega
  rw [run_succ_of_step k (step_of_stepCase hread)]
  obtain ⟨b', hrun', ⟨hph', _⟩, hd', ⟨hoe', hout'⟩, hres'⟩ :=
    run_follows k (by simp [LiveEq, hinp]) (by simp [SameShown, SameLine]) (fun hpos => hnext (hlen hpos))
      (htp.trans hup.symm) (htp ▸ hk') hrest
  exact ⟨b', hrun', hph', hd', hoe', hout', hres'⟩

end Sys2Proof.Machine
end

section
/-!
Every read ends in time (`70_reset_and_hazards.md` section 4): a bound on the time a read still needs, which the time to
the next sample uses up at every step.
-/
namespace Sys2Proof.Machine

/-! ### Time that a window leaves -/

/-- True times add up as long as their sum is within the counter's period (R14). -/
theorem elapsed_add {ref now next : Word} (h : (elapsed now ref).toNat + (elapsed next now).toNat < 2 ^ 32) :
    (elapsed next ref).toNat = (elapsed now ref).toNat + (elapsed next now).toNat := by
  have hsum : elapsed next ref = elapsed now ref + elapsed next now := by
    simp only [elapsed]
    ring
  rw [hsum, BitVec.toNat_add, Nat.mod_eq_of_lt h]

/-- The time left in a phase that waits for a window of `w` from some reference, `e` after that reference: while the
window is open the rest of it and the time `after` it, else the time `late` from the sample that finds it closed. -/
def windowLeft (w after late e : Nat) : Nat := if e ≤ w then w - e + after else late

theorem windowLeft_zero (w after late : Nat) : windowLeft w after late 0 = w + after := if_pos w.zero_le

/-- Waiting for an open window uses the time left up, when a sample that comes too late is allowed for in `after`. -/
theorem windowLeft_of_wait {w after late smax : Nat} {ref now next : Word} (hw : w ≤ Config.tGap)
    (he : (elapsed now ref).toNat ≤ w) (hclock : (elapsed next now).toNat < Config.maxAdvance)
    (hs : (elapsed next now).toNat ≤ smax) (hafter : smax + late ≤ after) :
    (elapsed next now).toNat + windowLeft w after late (elapsed next ref).toNat ≤
      windowLeft w after late (elapsed now ref).toNat := by
  have hperiod : Config.tGap + Config.maxAdvance < 2 ^ 32 := by decide
  have hadd : (elapsed next ref).toNat = (elapsed now ref).toNat + (elapsed next now).toNat :=
    elapsed_add (by omega)
  rw [hadd, windowLeft, windowLeft, if_pos he]
  split <;> omega

/-- Waiting for a window that opens now. -/
theorem windowLeft_of_start {w after late smax : Nat} {now next : Word} (hw : w ≤ Config.tGap)
    (hclock : (elapsed next now).toNat < Config.maxAdvance) (hs : (elapsed next now).toNat ≤ smax)
    (hafter : smax + late ≤ after) :
    (elapsed next now).toNat + windowLeft w after late (elapsed next now).toNat ≤ w + after := by
  have hzero : (elapsed now now).toNat = 0 := by simp [elapsed]
  have hwait := windowLeft_of_wait hw (hzero ▸ w.zero_le) hclock hs hafter
  rwa [hzero, windowLeft_zero] at hwait

/-! ### The time a read still needs -/

/-- From CAP_RELEASE: 42 gaps, one sample that comes late for the last of them, and the sample of FINISH. -/
def captureTime (smax : Nat) : Nat := Config.nEdges * Config.tGap + 2 * smax

/-- From the start of the wake pulse: the wake window, the late sample that ends it, the sample of CAP_RELEASE. -/
def wakeTime (smax : Nat) : Nat := Config.tWake + (2 * smax + captureTime smax)

/-- A bound on the time from the sample of this step to the one that ends the read; in IDLE, of a read accepted now. -/
def timeLeft (smax : Nat) (s : State) : Nat :=
  match s.phase with
  | .idle => Config.tBusy + (smax + wakeTime smax)
  | .hsPoll => windowLeft Config.tBusy (smax + wakeTime smax) 0 (elapsed s.inp.now s.tRef).toNat
  | .wakeHold =>
    windowLeft Config.tWake (2 * smax + captureTime smax) (smax + captureTime smax) (elapsed s.inp.now s.tRef).toNat
  | .capRelease => captureTime smax
  | .capture =>
    windowLeft Config.tGap ((41 - s.n.toNat) * Config.tGap + 2 * smax) smax
      (elapsed s.inp.now ((s.slot s.n.toNat).getD 0)).toNat
  | .finish => 0

theorem timeLeft_idle {s : State} (smax : Nat) (hp : s.phase = .idle) :
    timeLeft smax s = Config.tBusy + (smax + wakeTime smax) := by
  simp [timeLeft, hp]

theorem timeLeft_hsPoll {s : State} (smax : Nat) (hp : s.phase = .hsPoll) :
    timeLeft smax s =
      windowLeft Config.tBusy (smax + wakeTime smax) 0 (elapsed s.inp.now s.tRef).toNat := by
  simp [timeLeft, hp]

theorem timeLeft_wakeHold {s : State} (smax : Nat) (hp : s.phase = .wakeHold) :
    timeLeft smax s =
      windowLeft Config.tWake (2 * smax + captureTime smax) (smax + captureTime smax)
        (elapsed s.inp.now s.tRef).toNat := by
  simp [timeLeft, hp]

theorem timeLeft_capRelease {s : State} (smax : Nat) (hp : s.phase = .capRelease) :
    timeLeft smax s = captureTime smax := by
  simp [timeLeft, hp]

theorem timeLeft_capture {s : State} {last : Word} (smax : Nat) (hp : s.phase = .capture)
    (hl : s.slot s.n.toNat = some last) :
    timeLeft smax s = windowLeft Config.tGap ((41 - s.n.toNat) * Config.tGap + 2 * smax) smax
      (elapsed s.inp.now last).toNat := by
  simp [timeLeft, hp, hl]

theorem timeLeft_finish {s : State} (smax : Nat) (hp : s.phase = .finish) : timeLeft smax s = 0 := by
  simp [timeLeft, hp]

theorem timeLeft_le_readTimeBound {s : State} (smax : Nat) (hp : s.phase = .idle) :
    timeLeft smax s ≤ readTimeBound smax := by
  rw [timeLeft_idle smax hp, readTimeBound, wakeTime, captureTime]
  omega

/-- The time to the next sample comes off the time a read still needs, unless the read ends at this step. -/
theorem timeLeft_of_stepCase {smax : Nat} {s s' : State} (h : StepCase s s') (hr : s.inp.rst = false)
    (hcount : CountInRange s) (hclock : ClockOk s.inp s'.inp)
    (hs : (elapsed s'.inp.now s.inp.now).toNat ≤ smax) (hbusy : s.phase = .idle → s.inp.start = true)
    (hp' : s'.phase ≠ .idle) :
    (elapsed s'.inp.now s.inp.now).toNat + timeLeft smax s' ≤ timeLeft smax s := by
  cases h with
  | reset hr' => simp [hr] at hr'
  | nop _ hp hlow => simp [hbusy hp] at hlow
  | pollBusBusy | syncTimeout | dataTimeout | success | mismatch => simp at hp'
  | read _ hp =>
    rw [timeLeft_idle smax hp, timeLeft_hsPoll smax rfl]
    exact windowLeft_of_start (by decide) hclock hs (by omega)
  | pollHigh _ hp he hl =>
    have hstart := windowLeft_of_start (w := Config.tWake) (after := 2 * smax + captureTime smax)
      (late := smax + captureTime smax) (by decide) hclock hs (by omega)
    rw [timeLeft_hsPoll smax hp, windowLeft, if_pos (show _ ≤ Config.tBusy from he), timeLeft_wakeHold smax rfl]
    refine hstart.trans ?_
    rw [wakeTime]
    omega
  | pollLow _ hp he =>
    rw [timeLeft_hsPoll smax hp, timeLeft_hsPoll smax (s := s.advance) hp]
    exact windowLeft_of_wait (by decide) he hclock hs (by omega)
  | wakeEnd _ hp he =>
    rw [timeLeft_wakeHold smax hp, timeLeft_capRelease smax rfl, windowLeft]
    split <;> omega
  | wakeStay _ hp he =>
    rw [timeLeft_wakeHold smax hp, timeLeft_wakeHold smax (s := s.advance) hp]
    exact windowLeft_of_wait (by decide) he.le hclock hs (by omega)
  | release _ hp =>
    rw [timeLeft_capRelease smax hp,
      timeLeft_capture (last := s.inp.now) smax rfl (by simp [State.slot_storeBaseline])]
    have hfirst : captureTime smax = Config.tGap + (41 * Config.tGap + 2 * smax) := by
      rw [captureTime, Config.nEdges]
      omega
    rw [hfirst]
    exact windowLeft_of_start le_rfl hclock hs (by omega)
  | gapTimeout _ hp last hl he =>
    rw [timeLeft_finish smax rfl, timeLeft_capture smax hp hl, windowLeft,
      if_neg (show ¬_ ≤ Config.tGap from not_le.2 he)]
    exact hs
  | noEdge _ hp last hl he =>
    rw [timeLeft_capture smax hp hl, timeLeft_capture smax (s := (s.setPrev s.inp.lineIn).advance) hp hl]
    exact windowLeft_of_wait le_rfl he hclock hs (by omega)
  | noEdgeAtFullCount _ hp last hl he hf hn => exact absurd (hcount hp) (by omega)
  | edge _ hp last hl he hv hi hn =>
    have hlt : s.n.toNat + 1 < 43 := by omega
    have hnew : ((s.recorded hlt).setPrev false).advance.slot ((s.recorded hlt).setPrev false).advance.n.toNat =
        some s.inp.now := by simp [State.slot_recorded]
    have hgap : (41 - s.n.toNat) * Config.tGap + 2 * smax =
        Config.tGap + ((41 - (s.n.toNat + 1)) * Config.tGap + 2 * smax) := by
      rw [show 41 - s.n.toNat = (41 - (s.n.toNat + 1)) + 1 by omega, Nat.add_mul]
      omega
    rw [timeLeft_capture smax hp hl, windowLeft, if_pos (show _ ≤ Config.tGap from he), hgap,
      timeLeft_capture smax (s := ((s.recorded hlt).setPrev false).advance) hp hnew,
      State.advance_n, State.setPrev_n, State.recorded_count]
    exact (windowLeft_of_start le_rfl hclock hs (by omega)).trans (Nat.le_add_left _ _)
  | lastEdge _ hp last hl he =>
    rw [timeLeft_finish smax rfl, timeLeft_capture smax hp hl, windowLeft,
      if_pos (show _ ≤ Config.tGap from he)]
    omega

/-! ### The read ends -/

/-- Every step keeps the count in range while CAPTURE runs. -/
theorem countInRange_of_stepCase {s s' : State} (h : StepCase s s') (hcount : CountInRange s) : CountInRange s' := by
  intro hp'
  cases h with
  | release => simp
  | edge _ hp last hl he hv hi hn => simp; omega
  | nop _ hp | pollLow _ hp | wakeStay _ hp | noEdge _ hp => exact hcount hp'
  | _ => simp at hp'

/-- Over samples that keep the limits and last longer than the time left, a read ends within that time. -/
theorem read_ends_within_timeLeft {smax : Nat} (l : List Inputs) {s : State} (hpend : s.pending = l)
    (hbusy : s.phase = .idle → s.inp.start = true) (hcount : CountInRange s) (hr : s.inp.rst = false)
    (hspaced : SpacedBy smax s.inp l) (hlong : timeLeft smax s < totalTime s.inp l) :
    ∃ k s', k ≤ l.length ∧ totalTime s.inp (l.take k) ≤ timeLeft smax s ∧
      Host.Core.run core (k + 1) s = .next s' ∧ s'.phase = .idle ∧ s'.done = true := by
  induction l generalizing s with
  | nil => exact absurd hlong (Nat.not_lt_zero _)
  | cons b l ih =>
    obtain ⟨t, ht⟩ := exists_stepCase hcount
    have hstep := step_of_stepCase ht
    by_cases hpt : t.phase = .idle
    · have hp : s.phase ≠ .idle := by
        intro hp
        obtain rfl := ht.unique (.read hr hp (hbusy hp))
        simp at hpt
      refine ⟨0, t, Nat.zero_le _, Nat.zero_le _, ?_, hpt, done_of_readEnd ht hr hp hpt⟩
      rw [run_succ_of_step 0 hstep, run_zero]
    · obtain ⟨u, rfl, _, hu⟩ := step_advances hstep
      have hinp : u.advance.inp = b := u.nextSample_cons b l (hu.trans hpend)
      obtain ⟨hclock, hs, hrst, hspaced'⟩ := hspaced
      rw [← hinp] at hclock hs hrst hspaced'
      have hleft := timeLeft_of_stepCase ht hr hcount hclock hs hbusy hpt
      have htotal (m : List Inputs) : totalTime s.inp (b :: m) =
          (elapsed u.advance.inp.now s.inp.now).toNat + totalTime u.advance.inp m := by
        rw [hinp]; rfl
      rw [htotal] at hlong
      obtain ⟨k, s', hk, htime, hrun, hend⟩ := ih (s := u.advance) (by simp [hu, hpend]) (fun h => absurd h hpt)
        (countInRange_of_stepCase ht hcount) hrst hspaced' (by omega)
      refine ⟨k + 1, s', by simpa using hk, ?_, ?_, hend⟩
      · rw [List.take_succ_cons, htotal]
        omega
      · rw [run_succ_of_step (k + 1) hstep, hrun]

/-- Settles O48: the time left at the acceptance of a READ is within the bound (`timeLeft_le_readTimeBound`), and the read
ends within it (`read_ends_within_timeLeft`). -/
theorem everyReadEndsInTime : Obligations.EveryReadEndsInTime := by
  intro s smax hp hr hst hspaced hlong
  have hbound := timeLeft_le_readTimeBound smax hp
  obtain ⟨k, s', hk, htime, hend⟩ := read_ends_within_timeLeft s.pending rfl (fun _ => hst)
    (fun hc => by simp [hp] at hc) hr hspaced (hbound.trans_lt hlong)
  exact ⟨k, s', hk, htime.trans hbound, hend⟩

end Sys2Proof.Machine
end
